-- ==== Sys2Proof/Word.lean ====
section
/-!
DEFINITION. The byte and the 16-bit check word of the DY410's two serial links (0.5, R181).
-/
namespace Sys2Proof

/-- One character's data bits on either link. -/
abbrev Byte := BitVec 8

/-- The 16-bit check register of R181. -/
abbrev Word := BitVec 16

end Sys2Proof
end

