-- ==== Sys2Proof/Syntax.lean ====
section
/-!
DEFINITION. The commands of the DY410: one constructor of Instr for each row of spec/opcode_table.json, with the operands its
rule gives it. A row that is the taking of a host request carries no operand of its own: its operands are the fields of the
request body that stands oldest WAITING in the request queue (R182, R183; log 2).
-/
namespace Sys2Proof

/-- A service point: the point kind travels with the number (0.5). -/
inductive PointId where
  | island (n : Nat)
  | wash (n : Nat)
deriving DecidableEq, Repr

/-- Classes of event rounds and of station reports (Table 9-1). -/
inductive RoundClass where
  | urgent
  | routine
deriving DecidableEq, Repr

/-- One character received on a serial link: its byte, or a character framing error (R180, R144). -/
inductive RxChar where
  | byte (b : Byte)
  | framingError
deriving DecidableEq, Repr

/-- What an answer window held when it ended (R143, R144): no character begun within 3 ms, or the answer's characters
with whether the answer was complete within 12 ms. -/
inductive AnswerWindow where
  | silent
  | answer (chars : List RxChar) (inTime : Bool)
deriving DecidableEq, Repr

/-- The commands, in the table's order. -/
inductive Instr where
  /-- RSTN driven low (R13). -/
  | pinResetAssert
  /-- Release of RSTN (R13). -/
  | pinReset
  /-- Characters of a host frame with a good check, from HRXD (R180, R182). -/
  | hostFrame (bytes : List Byte)
  /-- Characters that end in a frame error; `framing`: the last one is a character framing error (R180). -/
  | frameError (bytes : List Byte) (framing : Bool)
  /-- Characters, then a gap of more than 5 ms (R180). -/
  | characterGapTimeout (bytes : List Byte)
  /-- The idle transmitter begins the oldest waiting reply (R185). -/
  | replyFrameBegin
  /-- The idle transmitter takes the oldest notice (R177). -/
  | noticeFrameBegin
  /-- The last character of an outbound frame is sent (R185). -/
  | frameSent
  /-- Taking of a request of unknown kind (R183). -/
  | unknownKind
  | laneDefine
  | laneDefineRemove
  | pointDefine
  | pointDefineRemove
  | stationDefine
  | stationDefineRemove
  | layoutCommit
  | timingSet
  | clockSet
  | statusQuery
  | yardReset
  /-- The end of a second of crystal time (R10). -/
  | clockAdvance
  /-- The advance from 86399 to 0 (R11). -/
  | dayRollover
  | busEnrol
  | busSet
  | busQueryRecord
  | busQueryList
  | busWithdraw
  | planWrite
  | planRead
  | planStart
  | planResume
  | planAbort
  | turnQueryQueue
  | turnQueryPoints
  | pointClose
  | pointOpen
  | frostSetOn
  | frostSetOff
  | laneQueryLane
  | laneQueryWaits
  | laneHold
  | laneUnhold
  | laneClose
  | laneOpen
  | laneForce
  | laneSet
  | shunt
  | slotAdd
  | slotRemove
  | slotMove
  | pulloutStart
  | pulloutStop
  | departQuery
  | lineAsk
  | lineRestart
  | stationQuery
  | noticeMap
  | noticeEnable
  | noticeTally
  | echo
  /-- Expiry of the supervision timer (R28). -/
  | supervisionExpiry
  /-- Expiry of a bus's hold timer (R48). -/
  | holdExpiry (fleet : Nat)
  /-- Expiry of a point's call timer (R66). -/
  | callTimerExpiry (point : PointId)
  /-- Expiry of an island's recovery timer (R73). -/
  | islandRecoveryExpiry (island : Nat)
  /-- Expiry of a wash lane's recovery timer (R89). -/
  | washRecoveryExpiry (lane : Nat)
  /-- Expiry of the entry timer of the bus's reservation (R108). -/
  | entryTimerExpiry (fleet : Nat)
  /-- Expiry of the lapse timer of the bus's departure entry (R135). -/
  | releaseLapseExpiry (fleet : Nat)
  /-- Expiry of the pacing timer (R128). -/
  | pacingExpiry
  /-- Expiry of a round timer (R160). -/
  | roundTimerExpiry (cls : RoundClass)
  /-- A selection event at an island (R63). -/
  | islandSelection (island : Nat)
  /-- A selection event at a wash lane (R82). -/
  | washSelection (lane : Nat)
  /-- The arbiter grants the free line (R147). -/
  | lineGrant
  /-- The idle wait after an exchange ends (R143). -/
  | lineIdleWaitEnd
  /-- A round poll's answer window ends (R163). -/
  | roundPollAnswer (window : AnswerWindow)
  /-- A command attempt's answer window ends (R149). -/
  | commandAnswer (window : AnswerWindow)
  /-- A host ask's answer window ends (R155). -/
  | askAnswer (window : AnswerWindow)
deriving DecidableEq, Repr

end Sys2Proof
end

