-- ==== Sys2Proof/Decode.lean ====
section
/-!
DEFINITION. The command a word of spec/opcode_table.json spells. No row of that table has bits, so no word spells a
command. (The bytes of host requests and of yard-line frames are read in Machine/Operands.lean and Machine/Frames.lean.)
-/
namespace Sys2Proof

/-- The rows of spec/opcode_table.json give no bits. -/
def decodeTableWord (_nbits _w : Nat) : Option Instr := none

end Sys2Proof
end

