-- ==== Sys2Proof/Config.lean ====
section
/-!
DEFINITION. What every DY410 fixes (the capacities its chapters give).
-/
namespace Sys2Proof.Config

/-- Bus records (R15). -/
def busRecords : Nat := 192
/-- Turn pool entries (R56). -/
def poolEntries : Nat := 48
/-- Step slots of the plan store (R33). -/
def planSlots : Nat := 512
/-- Steps one advance executes (R39 check 1). -/
def chainLimit : Nat := 16
/-- Addresses on a return stack (R43). -/
def stackDepth : Nat := 2
/-- Places of all lanes together (R6 check 6). -/
def yardPlaces : Nat := 192
/-- Notices in the notice queue (R175). -/
def noticeRoom : Nat := 32
/-- Entries of the host link's request queue (R182). -/
def requestRoom : Nat := 4
/-- BUSY replies that may wait at one time (R182). -/
def busyRoom : Nat := 8
/-- Asks in the ask queue (R154). -/
def askRoom : Nat := 2
/-- The exchange count at which a round is cut (R169). -/
def exchangeLimit : Nat := 96
/-- The last clock second of a service day (R10). -/
def lastSecond : Nat := 86399
/-- The departure key of a bus with no departure entry (R97). -/
def noSlotKey : Nat := 1440
/-- The gap of an empty lane (Table 6-3). -/
def emptyLaneGap : Nat := 1441

end Sys2Proof.Config
end

