-- ==== Sys2Proof/Machine/State.lean ====
section
/-!
DEFINITION. Everything the spec gives the DY410, as plain data: the records of each chapter, the state after reset, and the
reasons a step can stop. The state is nested by what an event can reach: `Env` (clock, parameters, plan store) is read by
the yard's events and written by none of them; `Yard` holds the records that one event may change together; the host link,
the layout, the line and the round engine stand beside it. A value the spec names that is a view of another (log 21: links,
command outstanding, unsent command, pending command marker) is computed in Machine/Ops.lean.
-/
namespace Sys2Proof.Machine

/-- A timer: stopped, or running with this many seconds left (log 4; the round timers: milliseconds of the period in
progress, log 5). -/
abbrev Timer := Option Nat

/-! ### Chapter 1 -/

/-- Table 1-1. -/
inductive YardMode where
  | unconfigured
  | running
deriving DecidableEq, Repr

/-- Table 1-3. -/
inductive LaneKind where
  | through
  | blind
deriving DecidableEq, Repr

/-- What an island offers (Table 1-3). -/
inductive Offers where
  | diesel
  | gas
  | both
deriving DecidableEq, Repr

/-- Table 1-3. -/
inductive StationKind where
  | gate
  | loop
  | island
  | wash
deriving DecidableEq, Repr

/-- A lane definition (Table 1-3). -/
structure LaneDef where
  number : Nat
  kind : LaneKind
  capacity : Nat
  gas : Bool
  station : Nat
deriving DecidableEq, Repr

/-- A point definition (Table 1-3); `offers` is absent for a wash lane. -/
structure PointDef where
  id : PointId
  offers : Option Offers
  station : Nat
deriving DecidableEq, Repr

/-- A station definition (Table 1-3). -/
structure StationDef where
  address : Nat
  kind : StationKind
deriving DecidableEq, Repr

/-- The three layout definition tables (1.2), each ascending by number or address, islands before wash lanes. -/
structure Layout where
  lanes : List LaneDef
  points : List PointDef
  stations : List StationDef
deriving DecidableEq, Repr

/-- The yard parameters of Table 1-5, in parameter-number order, each in the unit of that table. -/
structure Params where
  callWait : Nat
  entryWait : Nat
  releaseLapse : Nat
  pacingInterval : Nat
  dueLead : Nat
  swapWindow : Nat
  priorityCutoff : Nat
  invertAllowed : Bool
  /-- minutes, 0 for OFF -/
  supervision : Nat
  sightingReload : Nat
  recoveryWait : Nat
  urgentPeriod : Nat
  routinePeriod : Nat
deriving DecidableEq, Repr

/-! ### Chapter 3: the plan store -/

/-- TEST conditions (Table 3-3); the minute argument travels with SLOT_BEFORE. -/
inductive TestCond where
  | fuelWanted
  | washWanted
  | frost
  | hasSlot
  | slotBefore (minute : Nat)
  | residue
deriving DecidableEq, Repr

/-- Plan steps (Table 3-1). `park none` is PARK AUTO; `finish` is END. -/
inductive Step where
  | fuel
  | wash (program : Nat)
  | park (lane : Option Nat)
  | hold (minutes : Nat)
  | rep (count : Nat)
  | test (cond : TestCond) (target : Nat)
  | jump (target : Nat)
  | call (target : Nat)
  | ret
  | note (code : Nat)
  | finish (notify : Bool)
deriving DecidableEq, Repr

/-- The plan store (R33): (address, step) pairs, addresses strictly rising; an unlisted slot is EMPTY. -/
abbrev PlanStore := List (Nat × Step)

/-- What the events of the yard read and do not write. -/
structure Env where
  /-- clock second, 0-86399 (R10) -/
  clock : Nat
  params : Params
  plan : PlanStore
deriving DecidableEq, Repr

/-! ### Chapter 2: the fleet table -/

/-- Table 2-1. -/
inductive FuelKind where
  | diesel
  | gas
deriving DecidableEq, Repr

/-- Table 2-1. -/
inductive BusLength where
  | standard
  | articulated
deriving DecidableEq, Repr

/-- Where the part believes the bus stands (2.5). -/
inductive Position where
  | outside
  | loose
  | atPoint (p : PointId)
  | inLane (n : Nat)
deriving DecidableEq, Repr

/-- Plan waits (Table 3-4); `noPlan` is NONE. -/
inductive PlanWait where
  | noPlan
  | turn
  | called
  | serving
  | hold
  | berth
  | entry
  | ended
  | stalled
  | faulted
deriving DecidableEq, Repr

/-- Plan fault causes (Table 3-2). -/
inductive FaultCause where
  | emptyStep
  | range
  | stackFull
  | stackEmpty
  | badRepeat
  | runaway
  | missedCalls
  | parkTimeout
deriving DecidableEq, Repr

/-- A bus record (Table 2-1) with the plan runner's hold timer of that bus (R48). -/
structure Bus where
  fleet : Nat
  fuelKind : FuelKind
  length : BusLength
  routeClass : Nat
  homePlan : Option Nat
  fuelWanted : Bool
  washWanted : Bool
  position : Position
  wait : PlanWait
  cursor : Option Nat
  /-- most recently pushed first -/
  stack : List Nat
  repeatCount : Option Nat
  fault : Option FaultCause
  shuntMarker : Option PlanWait
  age : Nat
  missedCalls : Nat
  residue : Nat
  fuelTaken : Nat
  holdTimer : Timer
deriving DecidableEq, Repr

/-! ### Chapters 4 and 5: turns, fuel islands, wash lanes -/

/-- What a pool entry asks for (Table 4-1). -/
inductive TurnRequest where
  | fuel (kind : FuelKind)
  | wash (program passes : Nat)
deriving DecidableEq, Repr

/-- Status of a pool entry (Table 4-1). -/
inductive TurnStatus where
  | waiting
  | called (p : PointId)
  | serving (p : PointId)
deriving DecidableEq, Repr

/-- A pool entry (Table 4-1); the queue it is in is the list that holds it. -/
structure PoolEntry where
  bus : Nat
  time : Nat
  request : TurnRequest
  skip : Nat
  status : TurnStatus
deriving DecidableEq, Repr

/-- Island states (Table 4-2) and wash lane states (Table 5-1). -/
inductive PointState where
  | free
  | calling
  | occupied
  | serving
  | recovering
  | clearing
  | closed
  | down
  | frozen
deriving DecidableEq, Repr

/-- Down causes (Table 4-3). -/
inductive DownCause where
  | host
  | failed
  | station
deriving DecidableEq, Repr

/-- The mode a lane sign shows (R117). -/
inductive SignMode where
  | open
  | hold
  | closed
deriving DecidableEq, Repr

/-- Sign content (R117); 0 where a fleet number is missing. -/
structure SignContent where
  mode : SignMode
  expected1 : Nat
  expected2 : Nat
  expected3 : Nat
  release : Nat
deriving DecidableEq, Repr

/-- Command orders with their arguments (Table 8-3). -/
inductive Order where
  | sign (content : SignContent)
  | confirmFront
  | call (fleet : Nat)
  | clearCall
  | resetPoint
  | startPass (program : Nat)
deriving DecidableEq, Repr

/-- An island record (Table 4-3) or a wash lane record (Table 5-2). `offers` and `faults` are an island's, `program`,
`passesLeft` and `retries` a wash lane's; a field of the other kind keeps its value of LAYOUT_COMMIT. -/
structure Point where
  id : PointId
  offers : Option Offers
  station : Nat
  state : PointState
  bus : Option Nat
  callTimer : Timer
  recoveryTimer : Timer
  faults : Nat
  closePending : Bool
  downCause : Option DownCause
  deferred : Option Order
  tally : Nat
  program : Option Nat
  passesLeft : Nat
  retries : Nat
  /-- a selection event has been raised at the point and not yet taken (R60, log 9) -/
  selection : Bool
deriving DecidableEq, Repr

/-! ### Chapter 6: parking lanes -/

/-- Reservation kinds (Table 6-2). -/
inductive ReservationKind where
  | park
  | shunt
deriving DecidableEq, Repr

/-- A reservation record (Table 6-2). -/
structure Reservation where
  bus : Nat
  places : Nat
  kind : ReservationKind
  entryTimer : Timer
  lapses : Nat
deriving DecidableEq, Repr

/-- Why a release field names a bus (Table 6-1). -/
inductive ReleaseReason where
  | depart
  | call
  | shunt
deriving DecidableEq, Repr

/-- A lane record (Table 6-1). -/
structure Lane where
  number : Nat
  kind : LaneKind
  capacity : Nat
  gas : Bool
  station : Nat
  /-- state CLOSED; OPEN otherwise -/
  closed : Bool
  hold : Nat
  mismatch : Bool
  overfull : Bool
  dark : Bool
  /-- exit-end occupant first -/
  occupants : List Nat
  /-- oldest first -/
  reservations : List Reservation
  release : Option (Nat × ReleaseReason)
  forceMask : BitVec 12
  forceValue : BitVec 12
  inversions : Nat
  sign : SignContent
  lastSign : Option SignContent
  signPending : Bool
  confirmPending : Bool
deriving DecidableEq, Repr

/-- An entry of the berth wait list (R102); lane `none` is AUTO. -/
structure BerthWait where
  bus : Nat
  lane : Option Nat
  lapses : Nat
deriving DecidableEq, Repr

/-! ### Chapter 7: morning pull-out -/

/-- Departure entry states (Table 7-2). -/
inductive DepartureState where
  | waiting
  | due
  | confirming
  | blocked
  | late
  | released
  | outbound
deriving DecidableEq, Repr

/-- A departure entry (Table 7-1). -/
structure Departure where
  slot : Nat
  bus : Nat
  state : DepartureState
  mark : Nat
  noticeSent : Bool
  lapse : Timer
deriving DecidableEq, Repr

/-! ### Chapter 8: the yard line -/

/-- A lane or a service point: the owner of a command, the place of a notice (0.5, Table 10-3). -/
inductive Place where
  | lane (n : Nat)
  | point (p : PointId)
deriving DecidableEq, Repr

/-- Station states (Table 8-4). -/
inductive StationState where
  | unknown
  | alive
  | lost
deriving DecidableEq, Repr

/-- A station record (Table 8-4); `served none` is the gate. -/
structure Station where
  address : Nat
  kind : StationKind
  served : Option Place
  state : StationState
  failures : Nat
  turnBit : Option Bool
deriving DecidableEq, Repr

/-- An entry of the line command queue (R148). -/
structure LineCommand where
  owner : Place
  station : Nat
  order : Order
deriving DecidableEq, Repr

/-- The command in flight; `retry`: its second attempt is due or on the line (R149). -/
structure InFlight where
  command : LineCommand
  retry : Bool
deriving DecidableEq, Repr

/-- Ask operations (R154). -/
inductive AskOp where
  | test
  | read
  | write
deriving DecidableEq, Repr

/-- A host ask (R154) with the tag of its request. -/
structure Ask where
  tag : Byte
  address : Nat
  op : AskOp
  item : Nat
  value : Nat
deriving DecidableEq, Repr

/-- What a grant of the line is for (R147). -/
inductive LineHolder where
  | round
  | command
  | ask
deriving DecidableEq, Repr

/-- Where the exchange stands (R143). With YLDE high a master frame is being sent: before its answer window in `window`, a TAKEN before
the idle wait in `idleWait`. With YLDE low the frame has ended: the window is open, the idle wait runs (log 10). -/
inductive LinePhase where
  | free
  | window
  | idleWait
deriving DecidableEq, Repr

/-- The line (R143, R147, R154). -/
structure Line where
  /-- whose grant it is, from the grant until the line is free (R147, R158; log 36) -/
  holder : Option LineHolder
  phase : LinePhase
  /-- the transceiver's driver is on: a master frame is being sent, and its last character has not ended (R143; log 10) -/
  ylde : Bool
  /-- the master frame being sent, or the last one sent whole; empty when none was, or when the last was cut (log 12) -/
  frame : List Byte
  asks : List Ask
deriving DecidableEq, Repr

/-! ### Chapter 9: event rounds -/

/-- A group of addresses: prefix length 0-6 and the prefix, right-aligned (9.3). -/
structure Group where
  len : Nat
  bits : Nat
deriving DecidableEq, Repr

/-- A TAKEN that a VALID answer is owed: the address, and whether the polled group is popped after it (R164). -/
structure TakenOwed where
  address : Nat
  pop : Bool
deriving DecidableEq, Repr

/-- The round engine (R160-R162). `active none` is IDLE; the top of the stack comes first. -/
structure Rounds where
  urgentDue : Bool
  routineDue : Bool
  urgentTimer : Timer
  routineTimer : Timer
  active : Option RoundClass
  count : Nat
  garbles : Nat
  stack : List Group
  taken : Option TakenOwed
deriving DecidableEq, Repr

/-! ### Chapter 10: notices -/

/-- Notice kinds (Table 10-1), in kind-number order. -/
inductive NoticeKind where
  | resetDone | dayRolled
  | busArrived | unknownBus | positionCorrected | sightLost | noPlan
  | planNote | planEnded | planFault | planStalled
  | turnCalled | turnDone | turnTakenOver | wrongBus | callMissed | pointFault | pointDown | pointUp
  | berthAssigned | noBerth | parked | mispark | unplannedEntry | entryLapsed | laneMismatch | laneOverfull
  | laneDisorder | unsanctionedExit
  | released | departed | swapped | headBlocked | releaseLapsed | releaseWithdrawn | unscheduledExit | missedSlot
  | stationLost | stationBack | roundCut | askResult | lineRestarted
deriving DecidableEq, Repr

/-- A notice record (Table 10-3). -/
structure Notice where
  kind : NoticeKind
  cls : Nat
  lost : Nat
  time : Nat
  fleet : Nat
  place : Option Place
  code : Nat
  quantity : Nat
deriving DecidableEq, Repr

/-- The notice unit (R172-R178); `classes` and `tallies` are in kind-number order. -/
structure Notices where
  classes : List Nat
  enable1 : Bool
  enable2 : Bool
  enable3 : Bool
  /-- oldest first -/
  queue : List Notice
  lost : Nat
  tallies : List Nat
deriving DecidableEq, Repr

/-! ### Chapter 11: host link -/

/-- The receive framer (Table 11-1) with what it has received and its running check (R180, R181). -/
inductive Framer where
  | hunt
  | length
  | body (len : Nat) (got : List Byte) (crc : Word)
  | check (body : List Byte) (crc : Word) (high : Option Byte)
deriving DecidableEq, Repr

/-- An entry of the request queue: WAITING, or ANSWERED (R182). -/
structure RequestEntry where
  body : List Byte
  answered : Bool
deriving DecidableEq, Repr

/-- A waiting reply: its body, and whether it is a BUSY reply (R182, R185). -/
structure WaitingReply where
  body : List Byte
  busy : Bool
deriving DecidableEq, Repr

/-- The host link (R180-R187). -/
structure Link where
  framer : Framer
  frameErrors : Nat
  /-- oldest first -/
  requests : List RequestEntry
  /-- oldest first; replies of taken requests and BUSY replies in one order -/
  replies : List WaitingReply
  /-- the frame being sent on HTXD; none when the transmitter is idle -/
  sending : Option (List Byte)
  /-- after a pin reset, until the RESET_DONE frame begins (R182, R185) -/
  awaitResetDone : Bool
deriving DecidableEq, Repr

/-! ### The yard and the whole state -/

/-- The records that one event of the yard may change together (Chapters 2 to 8 and 10). -/
structure Yard where
  /-- the records in use, ascending by fleet number: the fleet-number map too (R15) -/
  fleet : List Bus
  supTimer : Timer
  fuelPriority : List PoolEntry
  fuelOrdinary : List PoolEntry
  washQueue : List PoolEntry
  /-- islands ascending, then wash lanes ascending -/
  points : List Point
  frost : Bool
  /-- ascending -/
  lanes : List Lane
  /-- oldest first -/
  waits : List BerthWait
  /-- list order of R122 -/
  departures : List Departure
  /-- pull-out mode RUNNING -/
  pullout : Bool
  pacing : Timer
  /-- ascending by address -/
  stations : List Station
  /-- oldest first -/
  cmdQueue : List LineCommand
  inFlight : Option InFlight
  notices : Notices
deriving DecidableEq, Repr

/-- The DY410. -/
structure State where
  /-- RSTN is held low (R13) -/
  rstnLow : Bool
  mode : YardMode
  env : Env
  layout : Layout
  yard : Yard
  line : Line
  rounds : Rounds
  link : Link
  /-- commands waiting, first in, first out: the model's own -/
  pending : List Instr
deriving DecidableEq, Repr

/-- Reasons a step stops with a fault. The spec names no event that stops the part, so there is none. -/
inductive Fault where
deriving DecidableEq, Repr

/-- Reasons a step has no meaning. -/
inductive Refusal where
  /-- A command that has no meaning yet; raised by exec alone. Safe: nothing is claimed of it. No arm uses it. -/
  | notModelled (mnemonic : String)
deriving DecidableEq, Repr

/-! ### Reset values -/

/-- Table 1-5's defaults. -/
def Params.reset : Params :=
  { callWait := 6, entryWait := 10, releaseLapse := 3, pacingInterval := 40, dueLead := 2, swapWindow := 3,
    priorityCutoff := 240, invertAllowed := false, supervision := 4, sightingReload := 8, recoveryWait := 5,
    urgentPeriod := 250, routinePeriod := 2 }

/-- Clock 0, default parameters, every slot EMPTY (R13, R33). -/
def Env.reset : Env := { clock := 0, params := Params.reset, plan := [] }

/-- The three tables empty (R13). -/
def Layout.reset : Layout := { lanes := [], points := [], stations := [] }

/-- Every kind in class 1, class 1 enabled, nothing queued, lost or counted (R172, R179). -/
def Notices.cleared : Notices :=
  { classes := List.replicate 42 1, enable1 := true, enable2 := false, enable3 := false,
    queue := [], lost := 0, tallies := List.replicate 42 0 }

/-- The yard with no record of any kind and the given notice unit; the supervision timer runs with the default 4 minutes
(R29, R32, R55, R79, R95, R121, R142, R159). -/
def Yard.emptied (notices : Notices) : Yard :=
  { fleet := [], supTimer := some 240, fuelPriority := [], fuelOrdinary := [], washQueue := [], points := [],
    frost := false, lanes := [], waits := [], departures := [], pullout := false, pacing := none, stations := [],
    cmdQueue := [], inFlight := none, notices := notices }

/-- The line idle with YLDE low, no asks (R159). -/
def Line.reset : Line := { holder := none, phase := .free, ylde := false, frame := [], asks := [] }

/-- IDLE, nothing due, timers stopped (R171). -/
def Rounds.reset : Rounds :=
  { urgentDue := false, routineDue := false, urgentTimer := none, routineTimer := none, active := none,
    count := 0, garbles := 0, stack := [], taken := none }

/-- Table 11-3 after a pin reset; RESET_DONE's frame is still to begin (R182). -/
def Link.reset : Link :=
  { framer := .hunt, frameErrors := 0, requests := [], replies := [], sending := none, awaitResetDone := true }

/-- The RESET_DONE notice posted as a pin reset's values are in place: cause PIN, clock 0 (Table 10-2). -/
def Notice.resetDonePin : Notice :=
  { kind := .resetDone, cls := 1, lost := 0, time := 0, fleet := 0, place := none, code := 1, quantity := 0 }

/-- The notice unit after a pin reset: RESET_DONE queued and counted (R179, Table 10-4). -/
def Notices.reset : Notices :=
  { Notices.cleared with queue := [Notice.resetDonePin], tallies := 1 :: List.replicate 41 0 }

/-- The part right after the release of RSTN: every value in place and RESET_DONE posted (R13). -/
def State.reset : State :=
  { rstnLow := false, mode := .unconfigured, env := Env.reset, layout := Layout.reset,
    yard := Yard.emptied Notices.reset, line := Line.reset, rounds := Rounds.reset, link := Link.reset,
    pending := [] }

end Sys2Proof.Machine
end

