-- ==== Sys2Proof/Machine/Ops.lean ====
section
/-!
DEFINITION. The named operations over the yard's records: looking a record up, changing one, posting a notice (R175, R176),
raising selection events (R60), queuing line commands (R148), and the views of log 21.
-/
namespace Sys2Proof

/-- Round class codes of Table 9-3. -/
def RoundClass.code : RoundClass → Nat
  | .urgent => 1 | .routine => 2

/-- The point is a wash lane. -/
def PointId.isWash : PointId → Bool
  | .island _ => false
  | .wash _ => true

/-- The night tally's limits (Tables 4-3, 5-2). -/
def PointId.tallyLimit : PointId → Nat
  | .island _ => 16777215
  | .wash _ => 65535

end Sys2Proof

namespace Sys2Proof.Machine

/-! ### Small arithmetic -/

/-- A sum that saturates at a limit (0.5, Counters). -/
def satAdd (limit a b : Nat) : Nat := min limit (a + b)

/-- Minutes as seconds. -/
def minutes (m : Nat) : Nat := m * 60

/-- One second of crystal time at a running timer (log 4). -/
def Timer.tick : Timer → Timer
  | some t => some (t - 1)
  | none => none

/-- Seconds remaining, 0 when stopped (R78, R141). -/
def Timer.remaining (t : Timer) : Nat := t.getD 0

/-! ### Codes -/

/-- Kind numbers of Table 10-1. -/
def NoticeKind.num : NoticeKind → Nat
  | .resetDone => 1 | .dayRolled => 2
  | .busArrived => 3 | .unknownBus => 4 | .positionCorrected => 5 | .sightLost => 6 | .noPlan => 7
  | .planNote => 8 | .planEnded => 9 | .planFault => 10 | .planStalled => 11
  | .turnCalled => 12 | .turnDone => 13 | .turnTakenOver => 14 | .wrongBus => 15 | .callMissed => 16
  | .pointFault => 17 | .pointDown => 18 | .pointUp => 19
  | .berthAssigned => 20 | .noBerth => 21 | .parked => 22 | .mispark => 23 | .unplannedEntry => 24
  | .entryLapsed => 25 | .laneMismatch => 26 | .laneOverfull => 27 | .laneDisorder => 28 | .unsanctionedExit => 29
  | .released => 30 | .departed => 31 | .swapped => 32 | .headBlocked => 33 | .releaseLapsed => 34
  | .releaseWithdrawn => 35 | .unscheduledExit => 36 | .missedSlot => 37
  | .stationLost => 38 | .stationBack => 39 | .roundCut => 40 | .askResult => 41 | .lineRestarted => 42

/-- Fault cause codes of Table 3-2. -/
def FaultCause.code : FaultCause → Nat
  | .emptyStep => 1 | .range => 2 | .stackFull => 3 | .stackEmpty => 4
  | .badRepeat => 5 | .runaway => 6 | .missedCalls => 7 | .parkTimeout => 8

/-- Plan wait codes of Table 11-7. -/
def PlanWait.code : PlanWait → Nat
  | .noPlan => 0 | .turn => 1 | .called => 2 | .serving => 3 | .hold => 4 | .berth => 5 | .entry => 6
  | .ended => 7 | .stalled => 8 | .faulted => 9

/-- State codes of Tables 4-2 and 5-1. -/
def PointState.code : PointState → Nat
  | .free => 0 | .calling => 1 | .occupied => 2 | .serving => 3 | .recovering => 4 | .clearing => 5
  | .closed => 6 | .down => 7 | .frozen => 8

/-- Down cause codes of Table 4-3. -/
def DownCause.code : DownCause → Nat
  | .host => 1 | .failed => 2 | .station => 3

/-- Departure state codes of Table 7-2. -/
def DepartureState.code : DepartureState → Nat
  | .waiting => 0 | .due => 1 | .confirming => 2 | .blocked => 3 | .late => 4 | .released => 5 | .outbound => 6

/-- Release reason codes of R109. -/
def ReleaseReason.code : ReleaseReason → Nat
  | .depart => 1 | .call => 2 | .shunt => 3

/-- Station kind codes of Table 8-6. -/
def StationKind.code : StationKind → Nat
  | .gate => 1 | .loop => 2 | .island => 3 | .wash => 4

/-- Place codes of Table 2-3, for a position. -/
def Position.code : Position → Nat
  | .outside => 0
  | .loose => 1
  | .inLane n => 10 + n
  | .atPoint (.island n) => 40 + n
  | .atPoint (.wash n) => 50 + n

/-- Place codes of Table 2-3, for a served object. -/
def Place.code : Place → Nat
  | .lane n => 10 + n
  | .point (.island n) => 40 + n
  | .point (.wash n) => 50 + n

/-- The lane or point of a position, absent when LOOSE or OUTSIDE (R26, R28). -/
def Position.place : Position → Option Place
  | .inLane n => some (.lane n)
  | .atPoint p => some (.point p)
  | .outside => none
  | .loose => none

/-- The lane of a position, if IN_LANE. -/
def Position.lane? : Position → Option Nat
  | .inLane n => some n
  | .atPoint _ => none
  | .outside => none
  | .loose => none

/-- The lane as the place of a notice, if IN_LANE (R133, R139). -/
def Position.lanePlace (p : Position) : Option Place := p.lane?.map Place.lane

/-- The lane a bus is called from, 0 if not IN_LANE (Table 4-5). -/
def Position.laneOrZero (p : Position) : Nat := p.lane?.getD 0

/-- Places a bus of this length takes (Table 2-1). -/
def BusLength.places : BusLength → Nat
  | .standard => 1
  | .articulated => 2

/-! ### The notice unit -/

/-- The enable flag of a class; class 0 has none and is never sent (R172). -/
def Notices.enabled (u : Notices) : Nat → Bool
  | 1 => u.enable1
  | 2 => u.enable2
  | 3 => u.enable3
  | _ => false

/-- One posting taken by the notice unit at a clock second (R175, R176). -/
def Notices.post (clock : Nat) (kind : NoticeKind) (fleet : Nat) (place : Option Place) (code quantity : Nat)
    (u : Notices) : Notices :=
  let i := kind.num - 1
  let u1 := { u with tallies := u.tallies.set i (satAdd 65535 (u.tallies.getD i 0) 1) }
  let cls := u.classes.getD i 0
  if u.enabled cls then
    if u.queue.length ≥ Config.noticeRoom then
      { u1 with lost := satAdd 255 u.lost 1 }
    else
      { u1 with
        queue := u.queue ++ [{ kind, cls, lost := u.lost, time := clock, fleet, place, code, quantity }]
        lost := 0 }
  else u1

/-- A block of the yard posts a notice (R175). -/
def Yard.post (e : Env) (kind : NoticeKind) (fleet : Nat) (place : Option Place) (code quantity : Nat)
    (y : Yard) : Yard :=
  { y with notices := y.notices.post e.clock kind fleet place code quantity }

/-! ### Looking up and changing records -/

/-- The bus found through the fleet-number map (R15). -/
def Yard.bus? (y : Yard) (f : Nat) : Option Bus := y.fleet.find? (fun b => b.fleet == f)

/-- Change the record of one bus. -/
def Yard.setBus (f : Nat) (g : Bus → Bus) (y : Yard) : Yard :=
  { y with fleet := y.fleet.map (fun b => if b.fleet = f then g b else b) }

/-- The lane record of a lane of the layout. -/
def Yard.lane? (y : Yard) (n : Nat) : Option Lane := y.lanes.find? (fun l => l.number == n)

/-- Change one lane record. -/
def Yard.setLane (n : Nat) (g : Lane → Lane) (y : Yard) : Yard :=
  { y with lanes := y.lanes.map (fun l => if l.number = n then g l else l) }

/-- The record of a point of the layout. -/
def Yard.point? (y : Yard) (p : PointId) : Option Point := y.points.find? (fun q => q.id == p)

/-- Change one point record. -/
def Yard.setPoint (p : PointId) (g : Point → Point) (y : Yard) : Yard :=
  { y with points := y.points.map (fun q => if q.id = p then g q else q) }

/-- The station record of an address (R146). -/
def Yard.station? (y : Yard) (a : Nat) : Option Station := y.stations.find? (fun t => t.address == a)

/-- Change one station record. -/
def Yard.setStation (a : Nat) (g : Station → Station) (y : Yard) : Yard :=
  { y with stations := y.stations.map (fun t => if t.address = a then g t else t) }

/-- The bus's departure entry: its departure link (Table 2-1, log 21). -/
def Yard.departure? (y : Yard) (f : Nat) : Option Departure := y.departures.find? (fun d => d.bus == f)

/-- Change the departure entry of one bus. -/
def Yard.setDeparture (f : Nat) (g : Departure → Departure) (y : Yard) : Yard :=
  { y with departures := y.departures.map (fun d => if d.bus = f then g d else d) }

/-- Remove the departure entry of one bus; its link is then absent (R122). -/
def Yard.dropDeparture (f : Nat) (y : Yard) : Yard :=
  { y with departures := y.departures.filter (fun d => d.bus != f) }

/-- Every pool entry in use (R56). -/
def Yard.pool (y : Yard) : List PoolEntry := y.fuelPriority ++ y.fuelOrdinary ++ y.washQueue

/-- Pool entries in use (R56). -/
def Yard.poolUsed (y : Yard) : Nat :=
  y.fuelPriority.length + y.fuelOrdinary.length + y.washQueue.length

/-- The bus's pool entry: its turn entry link (Table 2-1, log 21). -/
def Yard.turn? (y : Yard) (f : Nat) : Option PoolEntry := y.pool.find? (fun t => t.bus == f)

/-- The queue that holds the bus's entry, as the code of Table 4-5; 0 if it holds none. -/
def Yard.turnQueueCode (y : Yard) (f : Nat) : Nat :=
  if y.fuelPriority.any (fun t => t.bus == f) then 1
  else if y.fuelOrdinary.any (fun t => t.bus == f) then 2
  else if y.washQueue.any (fun t => t.bus == f) then 3
  else 0

/-- Change the pool entry of one bus, in its place (R58). -/
def Yard.setTurn (f : Nat) (g : PoolEntry → PoolEntry) (y : Yard) : Yard :=
  let change := List.map (fun t : PoolEntry => if t.bus = f then g t else t)
  { y with
    fuelPriority := change y.fuelPriority
    fuelOrdinary := change y.fuelOrdinary
    washQueue := change y.washQueue }

/-- Free the pool entry of one bus: it leaves its queue, and the entries behind it keep their order (R56). -/
def Yard.freeTurn (f : Nat) (y : Yard) : Yard :=
  let keep := List.filter (fun t : PoolEntry => t.bus != f)
  { y with
    fuelPriority := keep y.fuelPriority
    fuelOrdinary := keep y.fuelOrdinary
    washQueue := keep y.washQueue }

/-- The bus's reservation, with the lane it is in (R101: at most one). -/
def Yard.reservation? (y : Yard) (f : Nat) : Option (Nat × Reservation) :=
  y.lanes.findSome? (fun l => (l.reservations.find? (fun r => r.bus == f)).map (fun r => (l.number, r)))

/-- The point in CALLING that names the bus (R64: exactly one while its plan wait is CALLED). -/
def Yard.callingPoint? (y : Yard) (f : Nat) : Option Point :=
  y.points.find? (fun q => q.state == .calling && q.bus == some f)

/-- Some point record names the bus (R59). -/
def Yard.named (y : Yard) (f : Nat) : Bool := y.points.any (fun q => q.bus == some f)

/-- The plan wait becomes a value. -/
def Yard.setWait (f : Nat) (w : PlanWait) (y : Yard) : Yard := y.setBus f (fun b => { b with wait := w })

/-! ### Selection events -/

/-- A selection event is raised at each FREE island and each FREE wash lane (R60, log 9). -/
def Yard.raise (y : Yard) : Yard :=
  { y with points := y.points.map (fun q => if q.state = .free then { q with selection := true } else q) }

/-! ### The line command queue -/

/-- A command joins the tail of the queue (R148). -/
def Yard.queueCommand (owner : Place) (station : Nat) (order : Order) (y : Yard) : Yard :=
  { y with cmdQueue := y.cmdQueue ++ [{ owner, station, order }] }

/-- The owner's unsent command (Table 6-1 "unsent command", log 21). -/
def Yard.unsent? (y : Yard) (owner : Place) : Option LineCommand := y.cmdQueue.find? (fun c => c.owner == owner)

/-- The owner's command on the line. -/
def Yard.onLine? (y : Yard) (owner : Place) : Option LineCommand :=
  match y.inFlight with
  | some f => if f.command.owner = owner then some f.command else none
  | none => none

/-- The point's command outstanding, queued or in flight (Tables 4-3, 5-2, log 21). -/
def Yard.outstanding? (y : Yard) (p : PointId) : Option LineCommand :=
  (y.unsent? (.point p)).or (y.onLine? (.point p))

/-- Pending command marker of a station: NONE 0, QUEUED 1, IN_FLIGHT 2, BOTH 3 (R146, log 21). -/
def Yard.marker (y : Yard) (address : Nat) : Nat :=
  (if y.cmdQueue.any (fun c => c.station == address) then 1 else 0) +
  (match y.inFlight with
   | some f => if f.command.station = address then 2 else 0
   | none => 0)

/-- A point wants a command: queued, or deferred in place of an earlier deferred one while another of its commands is
outstanding (R61, R81). A point in DOWN wants none. -/
def Yard.wantPoint (p : PointId) (order : Order) (y : Yard) : Yard :=
  match y.point? p with
  | none => y
  | some q =>
    if q.state = .down then y
    else if (y.outstanding? p).isSome then y.setPoint p (fun q => { q with deferred := some order })
    else y.queueCommand (.point p) q.station order

end Sys2Proof.Machine
end

