-- ==== Sys2Proof/Machine/Flags.lean ====
section
/-!
DEFINITION. The computed fields of a lane record: occupied, reserved and free places (R96), departure keys and inversions
(R97), the flags MISMATCH and OVERFULL (R111, R106), the sign content and the wanting of a SIGN (R117), and the one
operation that clears a release field (R113).
-/
namespace Sys2Proof.Machine

/-! ### Places -/

/-- Places the bus takes. An occupant always has a record (R20); a fleet number without one would take none. -/
def Yard.busPlaces (y : Yard) (f : Nat) : Nat :=
  match y.bus? f with
  | some b => b.length.places
  | none => 0

/-- The occupied places of a lane: the sum of its occupants' lengths (R96). -/
def Yard.occupied (y : Yard) (l : Lane) : Nat := (l.occupants.map y.busPlaces).sum

/-- The reserved places of a lane (R96). -/
def Lane.reserved (l : Lane) : Nat := (l.reservations.map Reservation.places).sum

/-- The free places of a lane; negative when it is overfull (R96, R120). -/
def Yard.freePlaces (y : Yard) (l : Lane) : Int := (l.capacity : Int) - y.occupied l - l.reserved

/-- The exit-end occupant (R96). -/
def Lane.exitEnd (l : Lane) : Option Nat := l.occupants.head?

/-- Insertion at the lane's entry end: the back of a THROUGH lane, the front of a BLIND one (R96). -/
def Lane.insert (f : Nat) (l : Lane) : Lane :=
  match l.kind with
  | .through => { l with occupants := l.occupants ++ [f] }
  | .blind => { l with occupants := f :: l.occupants }

/-- The bus leaves the occupant list. -/
def Lane.remove (f : Nat) (l : Lane) : Lane := { l with occupants := l.occupants.filter (· != f) }

/-- The bus's reservation leaves the lane, its entry timer with it. -/
def Lane.unreserve (f : Nat) (l : Lane) : Lane :=
  { l with reservations := l.reservations.filter (fun r => r.bus != f) }

/-! ### Keys and inversions -/

/-- The departure key: the slot minute, or 1440 (R97). -/
def Yard.key (y : Yard) (f : Nat) : Nat :=
  match y.departure? f with
  | some d => d.slot
  | none => Config.noSlotKey

/-- Adjacent pairs in which the one nearer the exit end has the larger key (R97). -/
def countInversions (key : Nat → Nat) : List Nat → Nat
  | a :: b :: rest => (if key a > key b then 1 else 0) + countInversions key (b :: rest)
  | [_] => 0
  | [] => 0

/-- Inversions recomputed, with LANE_DISORDER when the count leaves 0 (R97). -/
def Yard.recountInversions (e : Env) (n : Nat) (y : Yard) : Yard :=
  match y.lane? n with
  | none => y
  | some l =>
    let count := min 11 (countInversions y.key l.occupants)
    let y1 := y.setLane n (fun l => { l with inversions := count })
    if l.inversions = 0 ∧ 0 < count then y1.post e .laneDisorder 0 (some (.lane n)) 0 count else y1

/-! ### MISMATCH and OVERFULL -/

/-- MISMATCH is set, with LANE_MISMATCH when it was clear (R111). -/
def Yard.setMismatch (e : Env) (n : Nat) (fleet cause quantity : Nat) (y : Yard) : Yard :=
  match y.lane? n with
  | none => y
  | some l =>
    if l.mismatch then y
    else
      (y.setLane n (fun l => { l with mismatch := true })).post e .laneMismatch fleet (some (.lane n)) cause quantity

/-- OVERFULL is set, with LANE_OVERFULL when it was clear (R106). -/
def Yard.setOverfull (e : Env) (n : Nat) (fleet : Nat) (y : Yard) : Yard :=
  match y.lane? n with
  | none => y
  | some l =>
    if l.overfull then y
    else
      (y.setLane n (fun l => { l with overfull := true })).post e .laneOverfull fleet (some (.lane n)) 0
        (y.occupied l)

/-- OVERFULL is cleared once the occupied places are at the capacity or below (R106). -/
def Yard.recheckOverfull (n : Nat) (y : Yard) : Yard :=
  match y.lane? n with
  | none => y
  | some l =>
    if l.overfull ∧ y.occupied l ≤ l.capacity then y.setLane n (fun l => { l with overfull := false }) else y

/-! ### The lane sign -/

/-- The sign content of a lane's present state, hold count, reservations and release field (R117). -/
def Lane.content (l : Lane) : SignContent :=
  let expected (i : Nat) : Nat := ((l.reservations[i]?).map Reservation.bus).getD 0
  { mode :=
      if l.closed then .closed
      else if 0 < l.hold ∧ l.reservations = [] then .hold
      else .open
    expected1 := expected 0
    expected2 := expected 1
    expected3 := expected 2
    release := (l.release.map Prod.fst).getD 0 }

/-- A lane wants a SIGN with its current content (R117): replaced in the unsent SIGN, pending behind an unsent CONFIRM_FRONT,
or queued. -/
def Yard.wantSign (n : Nat) (y : Yard) : Yard :=
  match y.lane? n with
  | none => y
  | some l =>
    match y.unsent? (.lane n) with
    | some { order := .sign _, .. } =>
      { y with
        cmdQueue := y.cmdQueue.map (fun c => if c.owner = .lane n then { c with order := .sign l.sign } else c) }
    | some _ => y.setLane n (fun l => { l with signPending := true })
    | none => y.queueCommand (.lane n) l.station (.sign l.sign)

/-- The sign content is recomputed, and a SIGN wanted when it differs from the content before (R117). -/
def Yard.updateSign (n : Nat) (y : Yard) : Yard :=
  match y.lane? n with
  | none => y
  | some l =>
    if l.content = l.sign then y
    else (y.setLane n (fun l => { l with sign := l.content })).wantSign n

/-- The sequencer requests a CONFIRM_FRONT (R117). -/
def Yard.wantConfirm (n : Nat) (y : Yard) : Yard :=
  match y.lane? n with
  | none => y
  | some l =>
    if (y.unsent? (.lane n)).isSome then y.setLane n (fun l => { l with confirmPending := true })
    else y.queueCommand (.lane n) l.station .confirmFront

/-- The lane's unsent command was taken for sending: a pending CONFIRM_FRONT is queued, or else a pending SIGN (R117). -/
def Yard.takenForSending (n : Nat) (y : Yard) : Yard :=
  match y.lane? n with
  | none => y
  | some l =>
    if l.confirmPending then
      (y.setLane n (fun l => { l with confirmPending := false })).queueCommand (.lane n) l.station .confirmFront
    else if l.signPending then
      (y.setLane n (fun l => { l with signPending := false })).queueCommand (.lane n) l.station (.sign l.sign)
    else y

/-! ### The release field -/

/-- The lane accepts a claim for the bus (R113, R59). -/
def Lane.claimable (l : Lane) (f : Nat) : Bool :=
  l.exitEnd == some f && l.release.isNone && l.hold == 0 && !l.mismatch && !l.dark

/-- An accepted claim is written into the release field and the sign content updated (R113). -/
def Yard.writeClaim (n f : Nat) (reason : ReleaseReason) (y : Yard) : Yard :=
  (y.setLane n (fun l => { l with release := some (f, reason) })).updateSign n

/-- The release field is cleared, the sign content updated, a selection event raised at each FREE point (R113). -/
def Yard.clearRelease (n : Nat) (y : Yard) : Yard :=
  ((y.setLane n (fun l => { l with release := none })).updateSign n).raise

/-- Release of the bus's claim for a reason, wherever it stands (R59, R113, R118, R135). -/
def Yard.releaseClaim (f : Nat) (reason : ReleaseReason) (y : Yard) : Yard :=
  match y.lanes.find? (fun l => l.release == some (f, reason)) with
  | some l => y.clearRelease l.number
  | none => y

end Sys2Proof.Machine
end

