-- ==== Sys2Proof/Machine/Berths.lean ====
section
/-!
DEFINITION. Berth assignment (R98-R103): usability, the choice of a lane, the making of a reservation, the berth wait list.
-/
namespace Sys2Proof.Machine

/-- The lane is usable for the bus (R98). -/
def Yard.usable (y : Yard) (b : Bus) (l : Lane) : Bool :=
  !l.closed && l.hold == 0 && !l.mismatch && !l.dark
    && decide ((b.length.places : Int) ≤ y.freePlaces l) && (l.gas || b.fuelKind == .diesel)

/-- The entry neighbour (Table 6-3). -/
def Lane.entryNeighbour (l : Lane) : Option Nat :=
  match l.reservations.getLast? with
  | some r => some r.bus
  | none =>
    match l.kind with
    | .through => l.occupants.getLast?
    | .blind => l.occupants.head?

/-- The gap of a compliant lane for a key; none when the lane is not compliant (Table 6-3). -/
def Yard.gap? (y : Yard) (k : Nat) (l : Lane) : Option Nat :=
  match l.entryNeighbour with
  | none => some Config.emptyLaneGap
  | some nb =>
    let kn := y.key nb
    match l.kind with
    | .through => if kn ≤ k then some (k - kn) else none
    | .blind => if k ≤ kn then some (kn - k) else none

/-- The pair with the smallest value, the earliest among equals. -/
def pickLeast : List (Nat × Int) → Option (Nat × Int)
  | [] => none
  | x :: rest =>
    match pickLeast rest with
    | none => some x
    | some r => if r.2 < x.2 then some r else some x

/-- The compliant candidates with their gaps, by lane number (R99 step 1). -/
def Yard.compliant (y : Yard) (b : Bus) : List (Nat × Int) :=
  y.lanes.filterMap (fun l =>
    if y.usable b l then (y.gap? (y.key b.fleet) l).map (fun g => (l.number, (g : Int))) else none)

/-- The candidates with the negative of their free places, so that the least is the lane with the most (R99 step 2). -/
def Yard.roomiest (y : Yard) (b : Bus) : List (Nat × Int) :=
  y.lanes.filterMap (fun l => if y.usable b l then some (l.number, - y.freePlaces l) else none)

/-- The berth for a bus: lane, BERTH_ASSIGNED code and quantity (R99 for AUTO, R100 for a named lane, R101's codes). -/
def Yard.chooseBerth (e : Env) (b : Bus) (arg : Option Nat) (y : Yard) : Option (Nat × Nat × Nat) :=
  match arg with
  | none =>
    match pickLeast (y.compliant b) with
    | some (n, g) => some (n, 1, g.toNat)
    | none =>
      if e.params.invertAllowed then (pickLeast (y.roomiest b)).map (fun r => (r.1, 2, 0)) else none
  | some n =>
    match y.lane? n with
    | some l => if y.usable b l then some (n, 3, 0) else none
    | none => none

/-- "Berth granted" (Table 3-5): taken in BERTH; discarded in any other plan wait (R49). -/
def PlanWait.berthGranted (w : PlanWait) : PlanWait := if w = .berth then .entry else w

/-- A reservation is made (R101): record, the plan wait it leaves, sign content, BERTH_ASSIGNED. -/
def Yard.reserve (e : Env) (b : Bus) (n : Nat) (kind : ReservationKind) (wait : PlanWait) (lapses code quantity : Nat)
    (y : Yard) : Yard :=
  let r : Reservation :=
    { bus := b.fleet, places := b.length.places, kind, entryTimer := some (minutes e.params.entryWait), lapses }
  (((y.setLane n (fun l => { l with reservations := l.reservations ++ [r] })).setWait b.fleet wait).updateSign n).post
    e .berthAssigned b.fleet (some (.lane n)) code quantity

/-- NO_BERTH's code (R100): 1 AUTO, 2 named lane not usable, 3 named lane not in the layout. -/
def Yard.noBerthCode (y : Yard) : Option Nat → Nat
  | none => 1
  | some n => if (y.lane? n).isSome then 2 else 3

/-- A PARK request of the plan runner with the lapses count handed with it (R47, R99, R100): a reservation and ENTRY, or
the tail of the berth wait list and BERTH. -/
def Yard.berthRequest (e : Env) (b : Bus) (arg : Option Nat) (lapses : Nat) (y : Yard) : Yard :=
  match y.chooseBerth e b arg with
  | some (n, code, quantity) => y.reserve e b n .park .entry lapses code quantity
  | none =>
    let y1 : Yard := { y with waits := y.waits ++ [{ bus := b.fleet, lane := arg, lapses }] }
    (y1.setWait b.fleet .berth).post e .noBerth b.fleet (arg.map Place.lane) (y.noBerthCode arg) 0

/-- The bus leaves the berth wait list (R102). -/
def Yard.leaveWaits (f : Nat) (y : Yard) : Yard := { y with waits := y.waits.filter (fun w => w.bus != f) }

/-- One entry tried by a re-run of the berth wait list (R103). -/
def Yard.retryWait (e : Env) (y : Yard) (w : BerthWait) : Yard :=
  match y.bus? w.bus with
  | none => y
  | some b =>
    match y.chooseBerth e b w.lane with
    | some (n, code, quantity) => (y.leaveWaits w.bus).reserve e b n .park b.wait.berthGranted w.lapses code quantity
    | none => y

/-- The berth wait list is re-run from its oldest entry (R103). -/
def Yard.rerunWaits (e : Env) (y : Yard) : Yard := y.waits.foldl (Yard.retryWait e) y

/-- A change of a bus's departure key is handed to the lane map: inversions of the lane that holds it, then a re-run of the
berth wait list (R97, R103, R123). -/
def Yard.keyChanged (e : Env) (f : Nat) (y : Yard) : Yard :=
  let y1 :=
    match y.lanes.find? (fun l => l.occupants.contains f) with
    | some l => y.recountInversions e l.number
    | none => y
  y1.rerunWaits e

end Sys2Proof.Machine
end

