-- ==== Sys2Proof/Machine/Plans.lean ====
section
/-!
DEFINITION. The plan store (R33) and the plan runner: joining a turn queue (R56, R57), the advance (R39-R48), faults (R40), starts
(R37) and the completion signals (R49-R51).
-/
namespace Sys2Proof.Machine

/-! ### The plan store -/

/-- The content of a slot; none is EMPTY (R33). -/
def PlanStore.read (store : PlanStore) (a : Nat) : Option Step :=
  match store with
  | [] => none
  | (k, v) :: rest => if k = a then some v else PlanStore.read rest a

/-- A slot takes a content; an EMPTY slot is not listed (R34). -/
def PlanStore.write (store : PlanStore) (a : Nat) (content : Option Step) : PlanStore :=
  match store with
  | [] =>
    match content with
    | some v => [(a, v)]
    | none => []
  | (k, w) :: rest =>
    if a < k then
      match content with
      | some v => (a, v) :: (k, w) :: rest
      | none => (k, w) :: rest
    else if a = k then
      match content with
      | some v => (a, v) :: rest
      | none => rest
    else (k, w) :: PlanStore.write rest a content

/-- Records written to consecutive slots (R34). -/
def PlanStore.writeAll (store : PlanStore) (a : Nat) : List (Option Step) → PlanStore
  | [] => store
  | r :: rest => PlanStore.writeAll (store.write a r) (a + 1) rest

/-- Addresses strictly rising above a bound, and below 512. -/
def PlanStore.above (bound : Nat) : PlanStore → Bool
  | [] => true
  | (k, _) :: rest => decide (bound ≤ k) && decide (k < Config.planSlots) && PlanStore.above (k + 1) rest

/-- The canonical form: addresses strictly rising within 0-511. -/
def PlanStore.wf (store : PlanStore) : Bool := PlanStore.above 0 store

/-! ### The turn pool -/

/-- The queue a new request joins: its code of Table 4-5 (R57). -/
def Yard.queueFor (e : Env) (f : Nat) (request : TurnRequest) (y : Yard) : Nat :=
  match request with
  | .wash _ _ => 3
  | .fuel _ =>
    match y.departure? f with
    | some d => if d.slot ≤ e.params.priorityCutoff then 1 else 2
    | none => 2

/-- An entry joins the tail of a queue. -/
def Yard.joinQueue (code : Nat) (t : PoolEntry) (y : Yard) : Yard :=
  if code = 1 then { y with fuelPriority := y.fuelPriority ++ [t] }
  else if code = 2 then { y with fuelOrdinary := y.fuelOrdinary ++ [t] }
  else { y with washQueue := y.washQueue ++ [t] }

/-- The turn arbiter asked for a turn: an entry made, plan wait TURN, a selection event (R56, R57, R60); none when all 48
entries are in use. -/
def Yard.enqueueTurn (e : Env) (f : Nat) (request : TurnRequest) (y : Yard) : Option Yard :=
  if Config.poolEntries ≤ y.poolUsed then none
  else
    let t : PoolEntry := { bus := f, time := e.clock, request, skip := 0, status := .waiting }
    some (((y.joinQueue (y.queueFor e f request) t).setWait f .turn).raise)

/-! ### The advance -/

/-- A plan fault (R40): FAULTED, its cause, the cursor where the rule places it, PLAN_FAULT. -/
def Yard.planFault (e : Env) (f : Nat) (cause : FaultCause) (cursor : Nat) (y : Yard) : Yard :=
  (y.setBus f (fun b => { b with wait := .faulted, fault := some cause, cursor := some cursor })).post e .planFault f none
    cause.code cursor

/-- The chain limit (R39 check 1): RUNAWAY with the cursor at the address about to be fetched, 512 where the sixteenth step was the one at
511 (log 13). -/
def Yard.runaway (e : Env) (f a : Nat) (y : Yard) : Yard := y.planFault e f .runaway a

/-- A FUEL or WASH step finds the pool full (R52). -/
def Yard.planStalled (e : Env) (f code a : Nat) (y : Yard) : Yard :=
  (y.setWait f .stalled).post e .planStalled f none code a

/-- A TEST condition evaluated on the bus and the yard as they stand (R42, Table 3-3). -/
def Yard.testHolds (b : Bus) (y : Yard) : TestCond → Bool
  | .fuelWanted => b.fuelWanted
  | .washWanted => b.washWanted
  | .frost => y.frost
  | .hasSlot => (y.departure? b.fleet).isSome
  | .slotBefore m =>
    match y.departure? b.fleet with
    | some d => decide (d.slot < m)
    | none => false
  | .residue => decide (0 < b.residue)

/-- A step that may stand while a repeat count is present (R39 check 4). -/
def Step.takesRepeat : Step → Bool
  | .wash _ => true
  | .hold _ => true
  | .fuel | .park _ | .rep _ | .test _ _ | .jump _ | .call _ | .ret | .note _ | .finish _ => false

/-- One fetched step executed for a bus, the cursor already at its address `a` (R41-R48). The second part is the address
the advance goes on at, none when the advance ends. `mark`: the lapses count of a re-run PARK (R47). -/
def Yard.execStep (e : Env) (b : Bus) (a : Nat) (mark : Option Nat) (y : Yard) : Step → Yard × Option Nat
  | .fuel =>
    match y.enqueueTurn e b.fleet (.fuel b.fuelKind) with
    | some y1 => (y1, none)
    | none => (y.planStalled e b.fleet 1 a, none)
  | .wash program =>
    let passes := b.repeatCount.getD 1
    if y.frost then
      (y.setBus b.fleet (fun b => { b with residue := passes, repeatCount := none }), some (a + 1))
    else
      match y.enqueueTurn e b.fleet (.wash program passes) with
      | some y1 => (y1, none)
      | none => (y.planStalled e b.fleet 2 a, none)
  | .park lane => (y.berthRequest e b lane (mark.getD 0), none)
  | .hold m =>
    (y.setBus b.fleet
      (fun b => { b with wait := .hold, holdTimer := some (minutes m * b.repeatCount.getD 1) }), none)
  | .rep c => (y.setBus b.fleet (fun b => { b with repeatCount := some (if c = 0 then 16 else c) }), some (a + 1))
  | .test cond target => (y, some (if y.testHolds b cond then target else a + 1))
  | .jump target => (y, some target)
  | .call target =>
    if Config.stackDepth ≤ b.stack.length then (y.planFault e b.fleet .stackFull a, none)
    else if Config.planSlots ≤ a + 1 then (y.planFault e b.fleet .range a, none)
    else (y.setBus b.fleet (fun b => { b with stack := (a + 1) :: b.stack }), some target)
  | .ret =>
    match b.stack with
    | [] => (y.planFault e b.fleet .stackEmpty a, none)
    | r :: rest => (y.setBus b.fleet (fun b => { b with stack := rest }), some r)
  | .note code => (y.post e .planNote b.fleet none code a, some (a + 1))
  | .finish notify =>
    let y1 := y.setBus b.fleet (fun b => { b with wait := .ended, stack := [] })
    (if notify then y1.post e .planEnded b.fleet none 0 a else y1, none)

/-- An advance of a bus's plan with so many more steps allowed, about to fetch address `a` (R39: the four checks in order,
then the step). -/
def Yard.advanceSteps (e : Env) (f : Nat) : Nat → Option Nat → Nat → Yard → Yard
  | 0, _, a, y => y.runaway e f a
  | n + 1, mark, a, y =>
    match y.bus? f with
    | none => y
    | some b =>
      if Config.planSlots ≤ a then y.planFault e f .range (Config.planSlots - 1)
      else
        match e.plan.read a with
        | none => y.planFault e f .emptyStep a
        | some step =>
          if b.repeatCount.isSome && !step.takesRepeat then y.planFault e f .badRepeat a
          else
            match (y.setBus f (fun b => { b with cursor := some a })).execStep e b a mark step with
            | (y1, some next) => Yard.advanceSteps e f n none next y1
            | (y1, none) => y1

/-- A fresh advance from an address, its count at 0 (R39). -/
def Yard.advance (e : Env) (f a : Nat) (y : Yard) : Yard := y.advanceSteps e f Config.chainLimit none a

/-- A plan start at an address (R37). -/
def Yard.planStart (e : Env) (f a : Nat) (y : Yard) : Yard :=
  (y.setBus f (fun b => { b with stack := [], repeatCount := none, fault := none, cursor := some a })).advance e f a

/-- A bus free for a start (R37). -/
def PlanWait.startable : PlanWait → Bool
  | .noPlan | .ended | .faulted => true
  | .turn | .called | .serving | .hold | .berth | .entry | .stalled => false

/-! ### Completion signals (Table 3-5) -/

/-- An advance past the step under the cursor, the repeat count cleared first. -/
def Yard.advancePast (e : Env) (f : Nat) (y : Yard) : Yard :=
  match y.bus? f with
  | none => y
  | some b => (y.setBus f (fun b => { b with repeatCount := none })).advance e f (b.cursor.getD 0 + 1)

/-- The plan wait of a bus is one of these. -/
def Yard.waitIn (y : Yard) (f : Nat) (ws : List PlanWait) : Bool :=
  match y.bus? f with
  | some b => ws.contains b.wait
  | none => false

/-- Turn granted. -/
def Yard.turnGranted (f : Nat) (y : Yard) : Yard :=
  if y.waitIn f [.turn] then y.setWait f .called else y

/-- Bus at point. -/
def Yard.busAtPoint (f : Nat) (y : Yard) : Yard :=
  if y.waitIn f [.called, .turn] then y.setWait f .serving else y

/-- Service complete. -/
def Yard.serviceComplete (e : Env) (f : Nat) (y : Yard) : Yard :=
  if y.waitIn f [.serving] then y.advancePast e f else y

/-- Frost end. -/
def Yard.frostEnd (e : Env) (f : Nat) (y : Yard) : Yard :=
  if y.waitIn f [.turn, .called, .serving] then y.advancePast e f else y

/-- Turn returned (R50). -/
def Yard.turnReturned (f : Nat) (y : Yard) : Yard :=
  if y.waitIn f [.called, .serving] then y.setWait f .turn else y

/-- Missed calls (R50): the fault leaves the cursor at the FUEL or WASH step. -/
def Yard.missedCallsSignal (e : Env) (f : Nat) (y : Yard) : Yard :=
  match y.bus? f with
  | some b => if b.wait = .called then y.planFault e f .missedCalls (b.cursor.getD 0) else y
  | none => y

/-- Park timeout (R50): the fault leaves the cursor at the PARK step. -/
def Yard.parkTimeoutSignal (e : Env) (f : Nat) (y : Yard) : Yard :=
  match y.bus? f with
  | some b => if b.wait = .entry then y.planFault e f .parkTimeout (b.cursor.getD 0) else y
  | none => y

/-- Entered: an advance past the PARK step. -/
def Yard.enteredSignal (e : Env) (f : Nat) (y : Yard) : Yard :=
  match y.bus? f with
  | some b => if b.wait = .entry then y.advance e f (b.cursor.getD 0 + 1) else y
  | none => y

/-- Reservation dropped (R51): a fresh advance at the cursor; a PARK still there is a re-run with this lapses count. -/
def Yard.reservationDropped (e : Env) (y : Yard) (d : Nat × Nat) : Yard :=
  match y.bus? d.1 with
  | some b =>
    if b.wait = .entry then y.advanceSteps e d.1 Config.chainLimit (some d.2) (b.cursor.getD 0) else y
  | none => y

/-- Shunt ended (R51): the plan wait is restored from the shunt marker and the marker cleared. -/
def Yard.shuntEnded (f : Nat) (y : Yard) : Yard :=
  match y.bus? f with
  | some b =>
    if b.wait = .entry then
      y.setBus f (fun b => { b with wait := b.shuntMarker.getD b.wait, shuntMarker := none })
    else y
  | none => y

end Sys2Proof.Machine
end

