-- ==== Sys2Proof/Machine/Turns.lean ====
section
/-!
DEFINITION. What islands and wash lanes share (Chapter 4, R80, R82-R85): returned turns and timeout requeues, the end of a wash step,
a point's entry into FREE, FROZEN, CLOSED or DOWN, selection, calls, their withdrawal, timeout and takeover, the taking of a
bus, closing, opening and station loss.
-/
namespace Sys2Proof.Machine

/-! ### The end of a wash step, returned turns -/

/-- Passes a wash entry asked for. -/
def TurnRequest.passes : TurnRequest → Nat
  | .wash _ n => n
  | .fuel _ => 0

/-- The request is a wash request. -/
def TurnRequest.isWash : TurnRequest → Bool
  | .wash _ _ => true
  | .fuel _ => false

/-- A wash step ends with residue `r` (R85, steps 1 to 3): residue recorded, entry freed, TURN_DONE. -/
def Yard.endWashStep (e : Env) (f r : Nat) (place : Option Place) (y : Yard) : Yard :=
  match y.turn? f with
  | none => y
  | some t =>
    let y1 := y.setBus f (fun b => { b with residue := r, washWanted := if r = 0 then false else b.washWanted })
    (y1.freeTurn f).post e .turnDone f place r (t.request.passes - r)

/-- A wash step ended with the signal "service complete" (R85 step 4). -/
def Yard.completeWash (e : Env) (f r : Nat) (place : Option Place) (y : Yard) : Yard :=
  (y.endWashStep e f r place).serviceComplete e f

/-- A wash step ended with the signal "frost end" (R85 step 4). -/
def Yard.frostWash (e : Env) (f r : Nat) (place : Option Place) (y : Yard) : Yard :=
  (y.endWashStep e f r place).frostEnd e f

/-- A returned turn at a point (R58): WAITING in its place, plan wait TURN, a selection event. A wash turn returned while the
frost flag is on is ended by frost instead (R85). -/
def Yard.returnTurn (e : Env) (p : PointId) (f : Nat) (y : Yard) : Yard :=
  match y.turn? f, y.point? p with
  | some t, some q =>
    if t.request.isWash && y.frost then
      let r := if t.status = .serving p then q.passesLeft else t.request.passes
      y.frostWash e f r (some (.point p))
    else ((y.setTurn f (fun t => { t with status := .waiting })).turnReturned f).raise
  | _, _ => y

/-- A timeout requeue (R58): the tail of FUEL-ORDINARY or WASH, enqueue time the clock, skip count kept, plan wait TURN. -/
def Yard.requeueTurn (e : Env) (f : Nat) (y : Yard) : Yard :=
  match y.turn? f with
  | none => y
  | some t =>
    let code := if t.request.isWash then 3 else 2
    (((y.freeTurn f).joinQueue code { t with time := e.clock, status := .waiting }).turnReturned f).raise

/-- The bus holds its entry in SERVING at the point (R70 step 4, R86). -/
def Yard.servingAt (y : Yard) (p : PointId) (f : Nat) : Bool :=
  (match y.turn? f with
   | some t => t.status == .serving p
   | none => false) && y.waitIn f [.serving]

/-! ### States of a point -/

/-- What leaves a point's record as it enters FREE, FROZEN, CLOSED or DOWN: bus, timers, program, passes left and retries
(R65, R71, R84). -/
def Point.vacated (q : Point) : Point :=
  { q with bus := none, callTimer := none, recoveryTimer := none, program := none, passesLeft := 0, retries := 0 }

/-- The record CLOSED by the host; the deferred command is discarded (R61, R74). -/
def Point.closedByHost (q : Point) : Point :=
  { q.vacated with state := .closed, closePending := false, downCause := some .host, deferred := none }

/-- The record of a point sent "to FREE": CLOSED if close pending, FROZEN for a wash lane in frost, or else FREE with a
selection event at itself (R71, R73, R80). -/
def Point.freed (frost : Bool) (q : Point) : Point :=
  if q.closePending then q.closedByHost
  else if q.id.isWash && frost then { q.vacated with state := .frozen, downCause := none }
  else { q.vacated with state := .free, downCause := none, selection := true }

/-- A point's record changes in a way that may stop it naming a bus, which raises a selection event (R60). -/
def Yard.vacatePoint (p : PointId) (g : Point → Point) (y : Yard) : Yard :=
  match y.point? p with
  | none => y
  | some q => if q.bus.isSome then (y.setPoint p g).raise else y.setPoint p g

/-- The point goes to FREE (R80 applies). -/
def Yard.freePoint (p : PointId) (y : Yard) : Yard := y.vacatePoint p (Point.freed y.frost)

/-- The point goes to CLOSED, down cause HOST. -/
def Yard.closePoint (p : PointId) (y : Yard) : Yard := y.vacatePoint p Point.closedByHost

/-- The point goes to DOWN with a cause and POINT_DOWN is posted; close pending is kept (R72, R76, R88, R94). -/
def Yard.downPoint (e : Env) (p : PointId) (cause : DownCause) (y : Yard) : Yard :=
  (y.vacatePoint p
    (fun q => { q.vacated with state := .down, downCause := some cause, deferred := none })).post e .pointDown 0
      (some (.point p)) cause.code 0

/-- A call or a service undone (R72, R94): the call timer stopped, a CALLED bus's claim released and its turn returned, a bus in
SERVING its turn returned, an aborted bus dropped. The bus field is made absent by the caller's change of state. -/
def Yard.undoTurn (e : Env) (p : PointId) (y : Yard) : Yard :=
  match y.point? p with
  | none => y
  | some q =>
    let y0 := y.setPoint p (fun q => { q with callTimer := none })
    match q.bus with
    | none => y0
    | some f =>
      match y0.turn? f with
      | none => y0
      | some t =>
        if t.status = .called p then (y0.releaseClaim f .call).returnTurn e p f
        else if t.status = .serving p then y0.returnTurn e p f
        else y0

/-- A call withdrawn, the point's side: call timer stopped, CLEAR_CALL wanted, to FREE (R65). -/
def Yard.withdrawCall (p : PointId) (y : Yard) : Yard :=
  ((y.setPoint p (fun q => { q with callTimer := none })).wantPoint p .clearCall).freePoint p

/-- A call of the bus at another point is withdrawn there (R67, R83); its claim is left to the lane map. -/
def Yard.withdrawElsewhere (p : PointId) (f : Nat) (y : Yard) : Yard :=
  match y.callingPoint? f with
  | some q => if q.id = p then y else y.withdrawCall q.id
  | none => y

/-! ### Taking a bus -/

/-- The point takes a bus for service (R67 for an island, R84 for a wash lane). -/
def Yard.takeBus (p : PointId) (f : Nat) (y : Yard) : Yard :=
  match y.turn? f with
  | none => y
  | some t =>
    let y1 := y.setPoint p (fun q =>
      match t.request with
      | .fuel _ => { q with state := .occupied, bus := some f, callTimer := none }
      | .wash program passes =>
        { q with
          state := .occupied, bus := some f, callTimer := none, program := some program, passesLeft := passes,
          retries := 0 })
    let y2 := (y1.setTurn f (fun t => { t with status := .serving p })).busAtPoint f
    match t.request with
    | .fuel _ => y2
    | .wash program _ => y2.wantPoint p (.startPass program)

/-- The island offers the fuel kind (4.3). -/
def Offers.serves : Offers → FuelKind → Bool
  | .both, _ => true
  | .diesel, .diesel => true
  | .gas, .gas => true
  | .diesel, .gas => false
  | .gas, .diesel => false

/-- The point can serve the request: a fuel kind the island offers, or a wash request at a wash lane (R63, R67, R83). -/
def Point.serves (q : Point) : TurnRequest → Bool
  | .fuel k =>
    match q.offers with
    | some o => !q.id.isWash && o.serves k
    | none => false
  | .wash _ _ => q.id.isWash

/-- The bus qualifies at the point (R67, R83). -/
def Yard.qualifies (y : Yard) (q : Point) (f : Nat) : Bool :=
  (match y.turn? f with
   | some t => q.serves t.request
   | none => false)
  && y.waitIn f [.turn, .called]
  && y.points.all (fun r => r.id == q.id || r.bus != some f || r.state == .calling)

/-! ### Selection and calls -/

/-- The bus of an entry is callable by the point (R59). -/
def Yard.callable (y : Yard) (p : PointId) (f : Nat) : Bool :=
  y.waitIn f [.turn] && !y.named f &&
  (match y.bus? f with
   | none => false
   | some b =>
     match b.position with
     | .loose => true
     | .atPoint q => q == p
     | .inLane n =>
       match y.lane? n with
       | some l => l.claimable f
       | none => false
     | .outside => false)

/-- A scan of one queue from its oldest entry (R63, R82): entries passed over, entries skipped (skip count raised), and the
first callable bus. -/
def scanQueue (serves : PoolEntry → Bool) (callable : Nat → Bool) : List PoolEntry → List PoolEntry × Option Nat
  | [] => ([], none)
  | t :: rest =>
    if t.status ≠ .waiting ∨ serves t = false then
      (t :: (scanQueue serves callable rest).1, (scanQueue serves callable rest).2)
    else if callable t.bus then (t :: rest, some t.bus)
    else
      ({ t with skip := satAdd 255 t.skip 1 } :: (scanQueue serves callable rest).1,
        (scanQueue serves callable rest).2)

/-- A point calls a bus (R64), the CALL claim on its lane first (R59). `code`: the queue's code in TURN_CALLED. -/
def Yard.callBus (e : Env) (p : PointId) (f code : Nat) (y : Yard) : Yard :=
  match y.bus? f with
  | none => y
  | some b =>
    let y0 :=
      match b.position with
      | .inLane n => y.writeClaim n f .call
      | .outside => y
      | .loose => y
      | .atPoint _ => y
    let y1 := y0.setPoint p (fun q => { q with state := .calling, bus := some f })
    let y2 := (y1.setTurn f (fun t => { t with status := .called p })).turnGranted f
    let y3 := y2.wantPoint p (.call f)
    let y4 := y3.setPoint p (fun q => { q with callTimer := some (minutes e.params.callWait) })
    let y5 := y4.post e .turnCalled f (some (.point p)) code b.position.laneOrZero
    if b.position = .atPoint p then y5.takeBus p f else y5

/-- A scan of the two fuel queues by an island (R63). -/
def Yard.selectIsland (e : Env) (q : Point) (y : Yard) : Yard :=
  let serves := fun t : PoolEntry => q.serves t.request
  let callable := y.callable q.id
  let first := scanQueue serves callable y.fuelPriority
  let y1 : Yard := { y with fuelPriority := first.1 }
  match first.2 with
  | some f => y1.callBus e q.id f 1
  | none =>
    let second := scanQueue serves callable y.fuelOrdinary
    let y2 : Yard := { y1 with fuelOrdinary := second.1 }
    match second.2 with
    | some f => y2.callBus e q.id f 2
    | none => y2

/-- A scan of the WASH queue by a wash lane (R82). -/
def Yard.selectWash (e : Env) (q : Point) (y : Yard) : Yard :=
  let scan := scanQueue (fun _ => true) (y.callable q.id) y.washQueue
  let y1 : Yard := { y with washQueue := scan.1 }
  match scan.2 with
  | some f => y1.callBus e q.id f 3
  | none => y1

/-- A selection event raised at a point is taken (R60): at a point that is no longer FREE it does nothing. -/
def Yard.selectionEvent (e : Env) (p : PointId) (y : Yard) : Yard :=
  match y.point? p with
  | none => y
  | some q =>
    if q.selection then
      let y1 := y.setPoint p (fun q => { q with selection := false })
      if q.state = .free then (if q.id.isWash then y1.selectWash e q else y1.selectIsland e q) else y1
    else y

/-- A call timer expires in CALLING (R66, R82). CALL_MISSED's lane is the one the bus stands in now, the model's choice (log 30). -/
def Yard.callTimeout (e : Env) (p : PointId) (y : Yard) : Yard :=
  match y.point? p with
  | none => y
  | some q =>
    match q.state, q.callTimer, q.bus with
    | .calling, some _, some f =>
      let y1 := y.setBus f (fun b => { b with missedCalls := satAdd 3 b.missedCalls 1 })
      let y2 := y1.releaseClaim f .call
      let missed := ((y2.bus? f).map Bus.missedCalls).getD 0
      let from' := ((y2.bus? f).map (fun b => b.position.laneOrZero)).getD 0
      let y3 := y2.post e .callMissed f (some (.point p)) missed from'
      let y4 := if 3 ≤ missed then (y3.freeTurn f).missedCallsSignal e f else y3.requeueTurn e f
      (y4.wantPoint p .clearCall).freePoint p
    | _, _, _ => y

/-! ### Arrivals -/

/-- WRONG_BUS (Tables 4-5, 5-5): the fleet number of the called bus, 0 if the point is not CALLING. -/
def Yard.wrongBus (e : Env) (q : Point) (f : Nat) (y : Yard) : Yard :=
  y.post e .wrongBus f (some (.point q.id)) q.state.code (if q.state = .calling then q.bus.getD 0 else 0)

/-- A takeover at a CALLING point by a qualifying bus `t` (R68, R83). -/
def Yard.takeover (e : Env) (p : PointId) (c t : Nat) (y : Yard) : Yard :=
  let y1 := y.setPoint p (fun q => { q with callTimer := none })
  let y2 := (y1.returnTurn e p c).releaseClaim c .call
  let y3 := y2.withdrawElsewhere p t
  let y4 := (y3.wantPoint p .clearCall).takeBus p t
  (y4.raise).post e .turnTakenOver t (some (.point p)) 0 c

/-- The point's own part of an AT_POINT that names a known bus (Tables 4-4 and 5-3). A FREE point that serves a bus CALLED elsewhere has
that call withdrawn before it takes the bus, so the CLEAR_CALL there is wanted before a wash lane's START_PASS here: the model's choice
(log 37). -/
def Yard.pointArrival (e : Env) (p : PointId) (f : Nat) (y : Yard) : Yard :=
  match y.point? p with
  | none => y
  | some q =>
    match q.state with
    | .calling =>
      if q.bus = some f then y.takeBus p f
      else if y.qualifies q f then y.takeover e p (q.bus.getD 0) f
      else y.wrongBus e q f
    | .free => if y.qualifies q f then (y.withdrawElsewhere p f).takeBus p f else y.wrongBus e q f
    | .occupied | .serving | .recovering | .clearing => if q.bus = some f then y else y.wrongBus e q f
    | .closed | .down | .frozen => y.wrongBus e q f

/-! ### Closing, opening, station loss -/

/-- The point's station is LOST (R75). -/
def Yard.stationLost (y : Yard) (q : Point) : Bool :=
  match y.station? q.station with
  | some t => t.state == .lost
  | none => false

/-- POINT_CLOSE by the point's state (R74, R93). -/
def Yard.hostClose (e : Env) (q : Point) (y : Yard) : Yard :=
  match q.state with
  | .free => y.closePoint q.id
  | .calling =>
    match q.bus with
    | some f =>
      let y1 := y.setPoint q.id (fun q => { q with callTimer := none })
      let y2 := ((y1.releaseClaim f .call).returnTurn e q.id f).wantPoint q.id .clearCall
      y2.closePoint q.id
    | none => y.closePoint q.id
  | .occupied | .serving | .recovering | .clearing | .frozen =>
    y.setPoint q.id (fun q => { q with closePending := true })
  | .down => y.closePoint q.id
  | .closed => y

/-- POINT_OPEN by the point's state (R75, R93); none is WRONG_STATE. -/
def Yard.hostOpen (e : Env) (q : Point) (y : Yard) : Option Yard :=
  match q.state with
  | .closed =>
    if y.stationLost q then some (y.downPoint e q.id .station)
    else some ((y.freePoint q.id).post e .pointUp 0 (some (.point q.id)) PointState.closed.code 0)
  | .down =>
    if y.stationLost q then none
    else
      let y1 := y.setPoint q.id (fun q => { q with closePending := false, faults := 0 })
      let y2 := (y1.freePoint q.id).wantPoint q.id .clearCall
      some (y2.post e .pointUp 0 (some (.point q.id)) PointState.down.code 0)
  | .free | .calling | .occupied | .serving | .recovering | .clearing | .frozen =>
    if q.closePending then some (y.setPoint q.id (fun q => { q with closePending := false })) else none

/-- The point's station becomes LOST (R76, R94). -/
def Yard.pointStationLost (e : Env) (p : PointId) (y : Yard) : Yard :=
  match y.point? p with
  | none => y
  | some q =>
    match q.state with
    | .closed | .down => y
    | .free | .calling | .occupied | .serving | .recovering | .clearing | .frozen =>
      (y.undoTurn e p).downPoint e p .station

/-- The point's station becomes ALIVE (R76, R94). -/
def Yard.pointStationAlive (e : Env) (p : PointId) (y : Yard) : Yard :=
  match y.point? p with
  | none => y
  | some q =>
    if q.state = .down ∧ q.downCause = some .station then
      if q.closePending then y.closePoint p
      else
        ((y.freePoint p).wantPoint p .clearCall).post e .pointUp 0 (some (.point p)) PointState.down.code 0
    else y

/-- "Line restarted" handed to a point (R77, R94). -/
def Yard.pointRestarted (p : PointId) (y : Yard) : Yard :=
  match y.point? p with
  | none => y
  | some q =>
    match q.state with
    | .calling => y.wantPoint p (.call (q.bus.getD 0))
    | .recovering => y.wantPoint p .resetPoint
    | .occupied =>
      match q.program with
      | some program => y.wantPoint p (.startPass program)
      | none => y
    | .free | .serving | .clearing | .closed | .down | .frozen => y

end Sys2Proof.Machine
end

