-- ==== Sys2Proof/Machine/PullOut.lean ====
section
/-!
DEFINITION. The pull-out sequencer (Chapter 7): the departure list, assessment, swaps and releases, exits, withdrawals, lapses, gate
departures and the rollover.
-/
namespace Sys2Proof.Machine

/-! ### The departure list -/

/-- The state is neither RELEASED nor OUTBOUND. -/
def DepartureState.unreleased : DepartureState → Bool
  | .released | .outbound => false
  | .waiting | .due | .confirming | .blocked | .late => true

/-- The head (R122). -/
def Yard.head? (y : Yard) : Option Departure := y.departures.find? (fun d => d.state.unreleased)

/-- An added mark newer than every other (R124, R126). -/
def Yard.nextMark (y : Yard) : Nat := (y.departures.foldl (fun m d => max m d.mark) 0) + 1

/-- Insertion after every entry whose slot minute is at or below the new one's (R124, R126). -/
def insertDeparture (d : Departure) : List Departure → List Departure
  | [] => [d]
  | x :: rest => if x.slot ≤ d.slot then x :: insertDeparture d rest else d :: x :: rest

/-- A new entry for a bus (R124). -/
def Yard.addSlot (e : Env) (f slot : Nat) (y : Yard) : Yard :=
  let d : Departure := { slot, bus := f, state := .waiting, mark := y.nextMark, noticeSent := false, lapse := none }
  ({ y with departures := insertDeparture d y.departures } : Yard).keyChanged e f

/-- An entry removed, its key change handed (R125, R123). -/
def Yard.removeSlot (e : Env) (f : Nat) (y : Yard) : Yard := (y.dropDeparture f).keyChanged e f

/-- The bus's entry moved to a slot minute (R126). -/
def Yard.moveSlot (e : Env) (f slot : Nat) (y : Yard) : Yard :=
  match y.departure? f with
  | none => y
  | some d =>
    let d1 : Departure := { d with slot, mark := y.nextMark, state := .waiting, noticeSent := false }
    ({ y with departures := insertDeparture d1 (y.dropDeparture f).departures } : Yard).keyChanged e f

/-! ### Exits and withdrawals -/

/-- The lane map hands the sequencer an exit (R137). -/
def Yard.handExit (f : Nat) (sanctioned : Bool) (y : Yard) : Yard :=
  match y.departure? f with
  | none => y
  | some d =>
    if sanctioned && d.state == .released then
      y.setDeparture f (fun d => { d with state := .outbound, lapse := none })
    else y

/-- "Release withdrawn" handed for a bus of a lane (R136). -/
def Yard.releaseWithdrawn (e : Env) (f n : Nat) (y : Yard) : Yard :=
  match y.departure? f with
  | none => y
  | some d =>
    if d.state = .released then
      (y.setDeparture f (fun d => { d with state := .due, lapse := none })).post e .releaseWithdrawn f
        (some (.lane n)) 0 d.slot
    else y

/-- A gate LEFT handed on to the sequencer (R138). -/
def Yard.handLeft (e : Env) (f : Nat) (y : Yard) : Yard :=
  match y.departure? f with
  | none => y
  | some d =>
    match d.state with
    | .outbound => ((y.dropDeparture f).post e .departed f none 0 d.slot).keyChanged e f
    | .released => y
    | .waiting | .due | .confirming | .blocked | .late =>
      ((y.dropDeparture f).post e .unscheduledExit f none d.state.code d.slot).keyChanged e f

/-! ### Assessment -/

/-- The bus meets the tests of R129 on its own record. -/
def Bus.finished (b : Bus) : Bool := b.wait == .ended || b.wait == .noPlan

/-- The lane a ready bus stands in, at its exit end (R129); none when the bus is not ready. -/
def Yard.readyLane? (y : Yard) (f : Nat) : Option Nat :=
  match y.bus? f with
  | none => none
  | some b =>
    match b.position.lane?.bind y.lane? with
    | none => none
    | some l => if b.finished && l.claimable f && decide (0 < b.age) then some l.number else none

/-- A release from the entry that holds the bus (R131). -/
def Yard.release (e : Env) (f n : Nat) (y : Yard) : Yard :=
  let y1 := y.writeClaim n f .depart
  let y2 := y1.setDeparture f (fun d =>
    { d with state := .released, noticeSent := false, lapse := some (minutes e.params.releaseLapse) })
  y2.post e .released f (some (.lane n)) 0 (y.key f)

/-- The swap search (R132): the first entry in the window whose bus is ready and of the route class. -/
def Yard.swapCandidate (y : Yard) (routeClass : Nat) : List Departure → Option (Nat × Nat)
  | [] => none
  | d :: rest =>
    match y.readyLane? d.bus with
    | some n =>
      if (y.bus? d.bus).any (fun c => c.routeClass == routeClass) then some (d.bus, n)
      else y.swapCandidate routeClass rest
    | none => y.swapCandidate routeClass rest

/-- The entries a swap search examines: those after the head that are neither RELEASED nor OUTBOUND, up to the window. -/
def Yard.swapWindow (e : Env) (b : Nat) (y : Yard) : List Departure :=
  (((y.departures.dropWhile (fun d => d.bus != b)).drop 1).filter (fun d => d.state.unreleased)).take
    e.params.swapWindow

/-- A swap of the head's bus `b` with bus `c`, standing in lane `n` (R132). -/
def Yard.swap (e : Env) (b c n routeClass : Nat) (y : Yard) : Yard :=
  let exchange := fun d : Departure =>
    if d.bus = b then { d with bus := c }
    else if d.bus = c then { d with bus := b, state := .waiting, noticeSent := false, lapse := none }
    else d
  let y1 : Yard := { y with departures := y.departures.map exchange }
  let y2 := y1.post e .swapped c (some (.lane n)) routeClass b
  ((y2.keyChanged e c).keyChanged e b).release e c n

/-- A head without a swap takes the state its assessment reached (R133). -/
def Yard.keepHead (e : Env) (d : Departure) (b : Bus) (state : DepartureState) (y : Yard) : Yard :=
  let y1 := y.setDeparture d.bus (fun d => { d with state })
  if d.noticeSent then y1
  else
    (y1.post e .headBlocked d.bus b.position.lanePlace state.code d.slot).setDeparture d.bus
      (fun d => { d with noticeSent := true })

/-- LATE, BLOCKED or CONFIRMING: a swap search first (R132), else the state and a confirmation asked (R133, R134). -/
def Yard.searchOrKeep (e : Env) (d : Departure) (b : Bus) (state : DepartureState) (confirm : Option Nat)
    (y : Yard) : Yard :=
  match y.swapCandidate b.routeClass (y.swapWindow e d.bus) with
  | some (c, n) => y.swap e d.bus c n b.routeClass
  | none =>
    let y1 := y.keepHead e d b state
    match confirm with
    | some n => y1.wantConfirm n
    | none => y1

/-- An assessment of the head (R130, Table 7-3). -/
def Yard.assess (e : Env) (d : Departure) (b : Bus) (y : Yard) : Yard :=
  if b.finished = false then y.searchOrKeep e d b .late none
  else
    match b.position.lane?.bind y.lane? with
    | none => y.searchOrKeep e d b .late none
    | some l =>
      if l.exitEnd ≠ some d.bus then y.searchOrKeep e d b .blocked none
      else if l.claimable d.bus = false then y.setDeparture d.bus (fun d => { d with state := .due })
      else if b.age = 0 then y.searchOrKeep e d b .confirming (some l.number)
      else y.release e d.bus l.number

/-- The due time of an entry (R128). -/
def Departure.dueTime (e : Env) (d : Departure) : Nat := (d.slot - e.params.dueLead) * 60

/-- What a pacing expiry does to the head (R128). -/
def Yard.takeHead (e : Env) (y : Yard) : Yard :=
  match y.head? with
  | none => y
  | some d =>
    if e.clock < d.dueTime e then y.setDeparture d.bus (fun d => { d with state := .waiting })
    else
      match y.bus? d.bus with
      | some b => y.assess e d b
      | none => y

/-- A pacing expiry: the timer's next period, then the head (R127, R128, R9). -/
def Yard.pacingLapse (e : Env) (y : Yard) : Yard :=
  if y.pullout ∧ y.pacing.isSome then
    ({ y with pacing := some e.params.pacingInterval } : Yard).takeHead e
  else y

/-- The release lapse timer of a bus's entry expires (R135). -/
def Yard.releaseLapse (e : Env) (f : Nat) (y : Yard) : Yard :=
  match y.departure? f with
  | none => y
  | some d =>
    if d.state = .released ∧ d.lapse.isSome then
      let lane := (y.lanes.find? (fun l => l.release == some (f, .depart))).map (fun l => Place.lane l.number)
      let place := lane.or ((y.bus? f).bind (fun b => b.position.lanePlace))
      let y1 := y.releaseClaim f .depart
      let y2 := y1.setDeparture f (fun d => { d with state := .due, lapse := none })
      y2.post e .releaseLapsed f place 0 d.slot
    else y

/-! ### Rollover -/

/-- One entry missed (R139). -/
def Yard.missSlot (e : Env) (y : Yard) (d : Departure) : Yard :=
  let place := (y.bus? d.bus).bind (fun b => b.position.lanePlace)
  ((y.dropDeparture d.bus).post e .missedSlot d.bus place d.state.code d.slot).keyChanged e d.bus

/-- The day rollover at the sequencer (R139): OFF, and every unreleased entry missed, in list order. -/
def Yard.departuresRollover (e : Env) (y : Yard) : Yard :=
  let y1 : Yard := { y with pullout := false, pacing := none }
  (y1.departures.filter (fun d => d.state.unreleased)).foldl (Yard.missSlot e) y1

end Sys2Proof.Machine
end

