-- ==== Sys2Proof/Machine/Parking.lean ====
section
/-!
DEFINITION. The lane map at work (R104-R119, R25, R26): positions and corrections, withdrawn releases, shunts, evictions, entries,
lapses, exits, occupancy, tags, LANE_SET, and the lane's station.
-/
namespace Sys2Proof.Machine

/-! ### Positions (R25, R26) -/

/-- The recorded position stands in the way of the new one (Table 2-4's last column). -/
def corrects : Position → Position → Bool
  | .inLane _, .outside | .inLane _, .loose | .atPoint _, .outside | .atPoint _, .loose => true
  | .outside, .outside | .outside, .loose | .loose, .outside | .loose, .loose => false
  | .loose, .atPoint _ | .loose, .inLane _ => false
  | old, .atPoint p => old != .atPoint p
  | old, .inLane n => old != .inLane n

/-- The position is set. A bus in TURN that takes the position LOOSE from another one raises a selection event (R60); that one which is
LOOSE already raises none is the model's choice (log 9). -/
def Yard.place (f : Nat) (pos : Position) (y : Yard) : Yard :=
  match y.bus? f with
  | none => y
  | some b =>
    let y1 := y.setBus f (fun b => { b with position := pos })
    if pos = .loose ∧ b.position ≠ .loose ∧ b.wait = .turn then y1.raise else y1

/-- The lane map's part of a correction out of lane m, all but the re-run of the berth wait list (R110). -/
def Yard.leaveLane (e : Env) (f m : Nat) (y : Yard) : Yard :=
  match y.lane? m with
  | none => y
  | some l =>
    let y1 := y.setLane m (Lane.remove f)
    let y2 := if l.release.map Prod.fst = some f then y1.clearRelease m else y1
    let y3 := y2.handExit f (l.release == some (f, .depart))
    let y4 := ((y3.recountInversions e m).recheckOverfull m).updateSign m
    if l.exitEnd = some f then y4.raise else y4

/-- A position report that names a place (Table 2-4), corrected where the table says. `rerun`: the berth wait list is re-run
within the correction (log 14). -/
def Yard.reportPosition (e : Env) (rerun : Bool) (f : Nat) (pos : Position) (y : Yard) : Yard :=
  match y.bus? f with
  | none => y
  | some b =>
    if corrects b.position pos then
      let y1 :=
        match b.position with
        | .inLane m => if rerun then (y.leaveLane e f m).rerunWaits e else y.leaveLane e f m
        | .atPoint _ => y
        | .outside => y
        | .loose => y
      (y1.place f pos).post e .positionCorrected f pos.place pos.code b.position.code
    else y.place f pos

/-- "Cleared point p" (Table 2-4). -/
def Yard.reportCleared (p : PointId) (f : Nat) (y : Yard) : Yard :=
  match y.bus? f with
  | none => y
  | some b => if b.position = .atPoint p then y.place f .loose else y

/-! ### Shunts, evictions, withdrawn releases -/

/-- The bus's reservation is removed from its lane and the lane's sign updated. -/
def Yard.dropReservation (n f : Nat) (y : Yard) : Yard := (y.setLane n (Lane.unreserve f)).updateSign n

/-- The target of the bus's shunt: the lane of its SHUNT reservation (R118). -/
def Yard.shuntTarget? (y : Yard) (f : Nat) : Option Nat :=
  (y.reservation? f).bind (fun h => if h.2.kind = .shunt then some h.1 else none)

/-- The lane's release stands for a shunt that has not ended (log 31). -/
def Yard.shuntsFrom (y : Yard) (l : Lane) : Bool :=
  l.release.any (fun r => r.2 == .shunt && (y.shuntTarget? r.1).isSome)

/-- A shunt to lane `n` ends by cancellation, its reservation gone (R118). -/
def Yard.shuntCancelled (e : Env) (f code n : Nat) (y : Yard) : Yard :=
  ((y.releaseClaim f .shunt).post e .entryLapsed f (some (.lane n)) code 0).shuntEnded f

/-- A shunt is cancelled (R118): code 5 for a withdrawal, 4 for an eviction. `was`: the target, where the same event has removed the
SHUNT reservation already (R104 step 3). With no shunt of the bus there is none to cancel, and a PARK reservation of it stands: the
model's choice for a field left from a shunt that has ended (log 31). -/
def Yard.cancelShunt (e : Env) (f code : Nat) (was : Option Nat) (y : Yard) : Yard :=
  match y.shuntTarget? f with
  | some n => (y.dropReservation n f).shuntCancelled e f code n
  | none =>
    match was with
    | some n => y.shuntCancelled e f code n
    | none => y

/-- A standing release is withdrawn (R107). `removed`: a bus whose SHUNT reservation the same event has removed, and its lane. -/
def Yard.withdrawRelease (e : Env) (n : Nat) (removed : Option (Nat × Nat)) (y : Yard) : Yard :=
  match (y.lane? n).bind Lane.release with
  | none => y
  | some (g, reason) =>
    let y1 := y.clearRelease n
    match reason with
    | .depart => y1.releaseWithdrawn e g n
    | .call =>
      match y1.callingPoint? g with
      | some q => (y1.returnTurn e q.id g).withdrawCall q.id
      | none => y1
    | .shunt => y1.cancelShunt e g 5 ((removed.filter (fun r => r.1 == g)).map Prod.snd)

/-- The release field names a bus that is not the exit-end occupant. -/
def Lane.boxedIn (l : Lane) : Bool :=
  match l.release with
  | some (g, _) => l.exitEnd != some g
  | none => false

/-- What the capacity rule has dropped so far: how many, and the PARK reservations whose steps are to be re-run. -/
structure Evictions where
  count : Nat
  reruns : List (Nat × Nat)
deriving DecidableEq, Repr

/-- The newest reservation dropped until the places fit, at most `n` times (R106). -/
def Yard.evict (e : Env) (lane : Nat) : Nat → Yard × Evictions → Yard × Evictions
  | 0, acc => acc
  | n + 1, (y, ev) =>
    match y.lane? lane with
    | none => (y, ev)
    | some l =>
      match l.reservations.getLast? with
      | none => (y, ev)
      | some r =>
        if y.occupied l + l.reserved ≤ l.capacity then (y, ev)
        else
          match r.kind with
          | .park =>
            Yard.evict e lane n
              ((y.setLane lane (Lane.unreserve r.bus)).post e .entryLapsed r.bus (some (.lane lane)) 4 0,
                { count := ev.count + 1, reruns := ev.reruns ++ [(r.bus, r.lapses)] })
          | .shunt => Yard.evict e lane n (y.cancelShunt e r.bus 4 none, { ev with count := ev.count + 1 })

/-- The capacity rule (R106) after an insertion of a bus into a lane. -/
def Yard.capacityRule (e : Env) (n f : Nat) (y : Yard) : Yard × Evictions :=
  match y.lane? n with
  | none => (y, { count := 0, reruns := [] })
  | some l =>
    let done := Yard.evict e n l.reservations.length (y, { count := 0, reruns := [] })
    if l.capacity < y.occupied l then (done.1.setOverfull e n f, done.2) else done

/-- The dropped PARK steps re-run in the order of dropping (R106). -/
def Yard.rerunDropped (e : Env) (ev : Evictions) (y : Yard) : Yard := ev.reruns.foldl (Yard.reservationDropped e) y

/-- The plan of a bus whose reservation was used or removed as by an entry (R104 step 9, R119 step 1). -/
def Yard.entryTaken (e : Env) (f : Nat) (kind : ReservationKind) (y : Yard) : Yard :=
  match kind with
  | .park => y.enteredSignal e f
  | .shunt => y.shuntEnded f

/-- MISMATCH is cleared (R111, R119). -/
def Yard.clearMismatch (n : Nat) (y : Yard) : Yard := y.setLane n (fun l => { l with mismatch := false })

/-! ### Entries -/

/-- PARKED, MISPARK or UNPLANNED_ENTRY (R104 step 7, R105). -/
def Yard.entryNotice (e : Env) (f n : Nat) (old : Position) (held : Option (Nat × Reservation)) (evicted : Nat)
    (y : Yard) : Yard :=
  let places := ((y.lane? n).map y.occupied).getD 0
  match held with
  | none => y.post e .unplannedEntry f (some (.lane n)) old.code places
  | some (m, r) =>
    if m = n then y.post e .parked f (some (.lane n)) (match r.kind with | .park => 1 | .shunt => 2) places
    else y.post e .mispark f (some (.lane n)) m evicted

/-- The plan's part of an entry (R104 step 9). -/
def Yard.entryPlan (e : Env) (f : Nat) (held : Option (Nat × Reservation)) (y : Yard) : Yard :=
  match held with
  | some (_, r) => y.entryTaken e f r.kind
  | none => y

/-- ENTERED of a known bus (R104). -/
def Yard.enteredKnown (e : Env) (n f : Nat) (y : Yard) : Yard :=
  match y.bus? f, y.lane? n with
  | some b, some l =>
    let held := y.reservation? f
    -- 1 position
    let y1 := y.reportPosition e false f (.inLane n)
    -- 2 re-entry, 3 reservation
    let y3 :=
      match held with
      | some (m, _) =>
        if m = n then (y1.setLane n (Lane.remove f)).setLane n (Lane.unreserve f)
        else (y1.setLane n (Lane.remove f)).dropReservation m f
      | none => y1.setLane n (Lane.remove f)
    -- 4 insertion
    let y4 := y3.setLane n (Lane.insert f)
    -- 5 mouth
    let boxed := (y4.lane? n).any Lane.boxedIn && (l.kind == .blind || l.occupants.contains f)
    let cancelled := boxed && y.shuntsFrom l
    let y5 := if boxed then y4.withdrawRelease e n ((y.shuntTarget? f).map (fun m => (f, m))) else y4
    -- 6 capacity
    let own := held.any (fun h => h.1 == n)
    let (y6, ev) := if own then (y5, { count := 0, reruns := [] }) else y5.capacityRule e n f
    -- 7 notice, 8 lane state, 9 plan
    let y8 := ((y6.entryNotice e f n b.position held ev.count).recountInversions e n).updateSign n
    let y9 := (y8.entryPlan e f held).rerunDropped e ev
    -- re-runs and selection
    let corrected := (b.position.lane?).any (· != n)
    let misparked := held.any (fun h => h.1 != n)
    let y10 := if corrected || misparked || cancelled || 0 < ev.count then y9.rerunWaits e else y9
    if (y4.lane? n).map Lane.exitEnd = some l.exitEnd then y10 else y10.raise
  | _, _ => y

/-- ENTERED of an unknown bus (R104): MISMATCH, and R107 as if an unknown bus stood at the mouth. -/
def Yard.enteredUnknown (e : Env) (n : Nat) (y : Yard) : Yard :=
  match y.lane? n with
  | none => y
  | some l =>
    let y1 := y.setMismatch e n 0 4 0
    if l.kind = .blind then
      let y2 := y1.withdrawRelease e n none
      if y.shuntsFrom l then y2.rerunWaits e else y2
    else y1

/-! ### Lapses -/

/-- The entry timer of the bus's reservation expires (R108). -/
def Yard.entryLapse (e : Env) (f : Nat) (y : Yard) : Yard :=
  match y.reservation? f with
  | none => y
  | some (n, r) =>
    if r.entryTimer.isNone then y
    else
      let y1 := y.dropReservation n f
      let y2 :=
        match r.kind, r.lapses with
        | .park, 0 => (y1.post e .entryLapsed f (some (.lane n)) 1 0).reservationDropped e (f, 1)
        | .park, _ => (y1.post e .entryLapsed f (some (.lane n)) 2 0).parkTimeoutSignal e f
        | .shunt, _ => ((y1.post e .entryLapsed f (some (.lane n)) 3 0).releaseClaim f .shunt).shuntEnded f
      y2.rerunWaits e

/-! ### Exits -/

/-- UNSANCTIONED_EXIT (R109 step 3). -/
def Yard.unsanctioned (e : Env) (n f : Nat) (field : Option (Nat × ReleaseReason)) (y : Yard) : Yard :=
  y.post e .unsanctionedExit f (some (.lane n)) ((field.map (fun r => r.2.code)).getD 0)
    ((field.map Prod.fst).getD 0)

/-- EXITED of a known bus (R109). -/
def Yard.exitedKnown (e : Env) (n f : Nat) (y : Yard) : Yard :=
  match y.bus? f, y.lane? n with
  | some b, some l =>
    let here := b.position == .inLane n
    let atExit := l.exitEnd == some f
    -- 1, 2
    let y2 :=
      if here then
        let y1 := (y.setLane n (Lane.remove f)).place f .loose
        if atExit then y1 else y1.setMismatch e n f 2 0
      else y.setMismatch e n f 3 0
    -- 3
    let named := l.release.map Prod.fst == some f
    let y3 := if named then y2.clearRelease n else y2.unsanctioned e n f l.release
    -- 4, 5
    let y4 := y3.handExit f (l.release == some (f, .depart))
    let y5 := ((y4.recountInversions e n).recheckOverfull n).updateSign n
    let y6 := y5.rerunWaits e
    if (here && atExit) || named then y6.raise else y6
  | _, _ => y

/-- EXITED of an unknown bus (R109). -/
def Yard.exitedUnknown (e : Env) (n : Nat) (y : Yard) : Yard := y.setMismatch e n 0 3 0

/-! ### Occupancy and tags -/

/-- Set places of a mask. -/
def countPlaces (m : BitVec 12) : Nat := ((List.range 12).filter (fun i => m.getLsbD i)).length

/-- The mask with the forced places replaced (R111). -/
def Lane.forced (l : Lane) (m : BitVec 12) : BitVec 12 := (m &&& ~~~l.forceMask) ||| (l.forceValue &&& l.forceMask)

/-- Sighting age reloaded (R27). -/
def Yard.reload (e : Env) (f : Nat) (y : Yard) : Yard := y.setBus f (fun b => { b with age := e.params.sightingReload })

/-- OCCUPANCY of a lane (R111). -/
def Yard.occupancy (e : Env) (n : Nat) (mask : BitVec 12) (y : Yard) : Yard :=
  match y.lane? n with
  | none => y
  | some l =>
    let count := countPlaces (l.forced mask)
    if count = y.occupied l then
      let y1 := l.occupants.foldl (fun y f => y.reload e f) (y.clearMismatch n)
      if l.mismatch then (y1.rerunWaits e).raise else y1
    else y.setMismatch e n 0 1 count

/-- TAG_SEEN at a lane (R112): `known` is the known bus the tag names. -/
def Yard.tagSeen (e : Env) (n : Nat) (known : Option Nat) (y : Yard) : Yard :=
  match y.lane? n with
  | none => y
  | some l =>
    if known.isSome && l.exitEnd == known then y else y.setMismatch e n (known.getD 0) 5 0

/-! ### The lane's station (R116) -/

/-- DARK is set. -/
def Yard.laneDark (n : Nat) (y : Yard) : Yard := y.setLane n (fun l => { l with dark := true })

/-- DARK is cleared and a SIGN with the current content is wanted (R116). -/
def Yard.laneAlive (e : Env) (n : Nat) (y : Yard) : Yard :=
  match y.lane? n with
  | none => y
  | some l =>
    if l.dark then
      (((y.setLane n (fun l => { l with dark := false })).wantSign n).rerunWaits e).raise
    else y

/-- LINE_RESTARTED at a lane (R116): DARK cleared with its effects, and a SIGN wanted in every case. -/
def Yard.laneRestarted (e : Env) (n : Nat) (y : Yard) : Yard :=
  match y.lane? n with
  | none => y
  | some l => if l.dark then y.laneAlive e n else y.wantSign n

/-! ### Shunts (R118) -/

/-- A SHUNT is taken: claim, marker, reservation. -/
def Yard.startShunt (e : Env) (b : Bus) (source target : Nat) (y : Yard) : Yard :=
  ((y.writeClaim source b.fleet .shunt).setBus b.fleet (fun b => { b with shuntMarker := some b.wait })).reserve e b
    target .shunt .entry 0 4 0

/-! ### LANE_SET (R119) -/

/-- A listed bus leaves another lane (step 1). -/
def Yard.setLeave (e : Env) (n : Nat) (y : Yard) (f : Nat) : Yard :=
  match (y.bus? f).bind (fun b => b.position.lane?) with
  | some m => if m = n then y else y.leaveLane e f m
  | none => y

/-- A listed bus's reservation is removed and its plan told (step 1). -/
def Yard.setUnreserve (e : Env) (y : Yard) (f : Nat) : Yard :=
  match y.reservation? f with
  | none => y
  | some (m, r) =>
    let y1 := y.dropReservation m f
    let y2 :=
      match r.kind with
      | .shunt => y1.releaseClaim f .shunt
      | .park => y1
    y2.entryTaken e f r.kind

/-- OVERFULL set if the listed places exceed the capacity, and cleared otherwise (step 5; log 15). -/
def Yard.settleOverfull (e : Env) (n : Nat) (y : Yard) : Yard :=
  match y.lane? n with
  | none => y
  | some l => if l.capacity < y.occupied l then y.setOverfull e n 0 else y.recheckOverfull n

/-- LANE_SET taken (R119). Where step 1 gives several listed buses no order, all of them leave their other lanes first; then, bus by bus in
the order listed, a reservation is dropped and its plan told at once, so that one bus's plan may go on before the next bus's reservation
is dropped: the model's choice (log 33). -/
def Yard.laneSet (e : Env) (n : Nat) (fleets : List Nat) (y : Yard) : Yard :=
  match y.lane? n with
  | none => y
  | some l =>
    let elsewhere := fleets.any (fun f => ((y.bus? f).bind (fun b => b.position.lane?)).any (· != n))
    let reserved := fleets.any (fun f => (y.reservation? f).isSome)
    -- 1
    let y1 := fleets.foldl (Yard.setUnreserve e) (fleets.foldl (Yard.setLeave e n) y)
    -- 2
    let unlisted := l.occupants.filter (fun f => !fleets.contains f)
    let y2 := unlisted.foldl (fun y f => y.place f .loose) y1
    -- 3
    let y3 := fleets.foldl (fun y f => y.place f (.inLane n)) (y2.setLane n (fun l => { l with occupants := fleets }))
    -- 4
    let boxed := (y3.lane? n).any Lane.boxedIn
    let shunted := boxed && (y3.lane? n).any y3.shuntsFrom
    let y4 := if boxed then y3.withdrawRelease e n none else y3
    -- 5
    let y5 := (y4.clearMismatch n).settleOverfull e n
    -- 6
    let (y6, ev) := y5.capacityRule e n 0
    -- 7
    let y7 := (y6.recountInversions e n).updateSign n
    let y8 := y7.rerunDropped e ev
    let due := elsewhere || reserved || !unlisted.isEmpty || shunted || l.mismatch || 0 < ev.count
    (if due then y8.rerunWaits e else y8).raise

end Sys2Proof.Machine
end

