-- ==== Sys2Proof/Machine/Islands.lean ====
section
/-!
DEFINITION. Fuel islands at work (R69-R73): fuelling, clearing, faults and recovery.
-/
namespace Sys2Proof.Machine

/-- SERVICE_STARTED at an island or a wash lane (R69, R84): OCCUPIED goes to SERVING, else nothing. -/
def Yard.serviceStarted (p : PointId) (y : Yard) : Yard :=
  match y.point? p with
  | none => y
  | some q => if q.state = .occupied then y.setPoint p (fun q => { q with state := .serving }) else y

/-- Tenths rounded to whole units, a half to the even number (R70). -/
def wholeUnits (tenths : Nat) : Nat :=
  if tenths % 10 < 5 then tenths / 10
  else if 5 < tenths % 10 then tenths / 10 + 1
  else if tenths / 10 % 2 = 0 then tenths / 10
  else tenths / 10 + 1

/-- The night tally grows, saturating. -/
def Yard.addTally (p : PointId) (amount : Nat) (y : Yard) : Yard :=
  y.setPoint p (fun q => { q with tally := satAdd p.tallyLimit q.tally amount })

/-- The bus's part of a FUEL_DONE (R70 step 2): fuel taken, fuel wanted. -/
def Yard.addFuel (f tenths : Nat) (y : Yard) : Yard :=
  y.setBus f (fun b => { b with fuelTaken := satAdd 9999 b.fuelTaken (wholeUnits tenths), fuelWanted := false })

/-- FUEL_DONE at an island (R70). -/
def Yard.fuelDone (e : Env) (p : PointId) (tenths : Nat) (y : Yard) : Yard :=
  match y.point? p with
  | none => y
  | some q =>
    let y1 := y.addTally p tenths
    if q.state = .occupied ∨ q.state = .serving then
      let y2 :=
        match q.bus with
        | some f => y1.addFuel f tenths
        | none => y1
      let y3 := y2.setPoint p (fun q => { q with faults := 0 })
      let y4 :=
        match q.bus with
        | some f =>
          if y3.servingAt p f then
            ((y3.freeTurn f).post e .turnDone f (some (.point p)) 0 tenths).serviceComplete e f
          else y3
        | none => y3
      y4.setPoint p (fun q => { q with state := .clearing })
    else y1

/-- The POINT_CLEAR is for the point's own bus (R71, R90): it names it, or names none while the point has one. -/
def Point.ownClear (q : Point) (named : Option Nat) : Bool :=
  q.bus.isSome && (named.isNone || named == q.bus)

/-- The bus left in the middle of its turn: its turn is returned if it still holds its entry in SERVING (R71, R90). -/
def Yard.leftEarly (e : Env) (q : Point) (y : Yard) : Yard :=
  match q.bus with
  | some f => if y.servingAt q.id f then y.returnTurn e q.id f else y
  | none => y

/-- The island's own part of a POINT_CLEAR (R71). -/
def Yard.islandClear (e : Env) (p : PointId) (named : Option Nat) (y : Yard) : Yard :=
  match y.point? p with
  | none => y
  | some q =>
    match q.state with
    | .clearing => if named.isNone || named == q.bus then y.freePoint p else y
    | .occupied | .serving => if q.ownClear named then (y.leftEarly e q).freePoint p else y
    | .free | .calling | .recovering | .closed | .down | .frozen => y

/-- The point goes to RECOVERING and resets its equipment (R72, R87); `g` is what else changes in its record. -/
def Yard.startRecovery (e : Env) (p : PointId) (g : Point → Point) (y : Yard) : Yard :=
  (y.vacatePoint p
    (fun q => { g q with state := .recovering, recoveryTimer := some (minutes e.params.recoveryWait) })).wantPoint p
      .resetPoint

/-- POINT_FAULT posted for a fault (R72, R87): quantity 1 for a report, 2 for NOT_READY. -/
def Yard.postFault (e : Env) (q : Point) (code quantity : Nat) (y : Yard) : Yard :=
  y.post e .pointFault (q.bus.getD 0) (some (.point q.id)) code quantity

/-- A fault at an island (R72). A call is undone before RESET_POINT is wanted, so the SIGN of the lane whose CALL claim is released joins the
line command queue first: the model's choice (log 34). -/
def Yard.islandFault (e : Env) (p : PointId) (code quantity : Nat) (y : Yard) : Yard :=
  match y.point? p with
  | none => y
  | some q =>
    let y1 := y.postFault e q code quantity
    match q.state with
    | .closed | .down | .frozen => y1
    | .recovering => y1.downPoint e p .failed
    | .free | .calling | .occupied | .serving | .clearing =>
      let y2 := y1.undoTurn e p
      if q.faults = 0 then y2.startRecovery e p (fun q => { q.vacated with faults := 1 })
      else y2.downPoint e p .failed

/-- POINT_READY at an island (R73). -/
def Yard.islandReady (e : Env) (p : PointId) (y : Yard) : Yard :=
  match y.point? p with
  | none => y
  | some q =>
    if q.state = .recovering then
      let y1 := y.freePoint p
      if q.closePending then y1 else y1.post e .pointUp 0 (some (.point p)) PointState.recovering.code 0
    else y

/-- An island's recovery timer expires (R73). -/
def Yard.islandRecoveryLapse (e : Env) (p : PointId) (y : Yard) : Yard :=
  match y.point? p with
  | none => y
  | some q => if q.state = .recovering ∧ q.recoveryTimer.isSome then y.downPoint e p .failed else y

end Sys2Proof.Machine
end

