-- ==== Sys2Proof/Machine/WashLanes.lean ====
section
/-!
DEFINITION. Wash lanes at work (R86-R92): pass boundaries, faults and recovery, leaving, frost.
-/
namespace Sys2Proof.Machine

/-- The lane orders a pass (R86, R89): OCCUPIED, START_PASS with its program. -/
def Yard.orderPass (p : PointId) (y : Yard) : Yard :=
  match y.point? p with
  | none => y
  | some q =>
    let y1 := y.setPoint p (fun q => { q with state := .occupied })
    match q.program with
    | some program => y1.wantPoint p (.startPass program)
    | none => y1

/-- The wash step has ended; the lane waits for its bus to leave. -/
def Yard.toClearing (p : PointId) (y : Yard) : Yard := y.setPoint p (fun q => { q with state := .clearing })

/-- WASH_DONE at a wash lane (R86). -/
def Yard.washDone (e : Env) (p : PointId) (y : Yard) : Yard :=
  match y.point? p with
  | none => y
  | some q =>
    let y1 := y.addTally p 1
    if q.state = .occupied ∨ q.state = .serving then
      let left := q.passesLeft - 1
      let y2 := y1.setPoint p (fun q => { q with passesLeft := left, retries := 0 })
      match q.bus with
      | none => y2.freePoint p
      | some f =>
        if y2.servingAt p f = false then y2.toClearing p
        else if left = 0 then (y2.completeWash e f 0 (some (.point p))).toClearing p
        else if y2.frost then (y2.frostWash e f left (some (.point p))).toClearing p
        else y2.orderPass p
    else y1

/-- A wash lane goes to DOWN (FAILED), ending the turn of its bus (R88). -/
def Yard.washDown (e : Env) (p : PointId) (y : Yard) : Yard :=
  match y.point? p with
  | none => y
  | some q =>
    let y1 :=
      match q.bus with
      | some f => if y.servingAt p f then y.completeWash e f q.passesLeft (some (.point p)) else y
      | none => y
    y1.downPoint e p .failed

/-- A fault at a wash lane (R87). As at an island a call is undone before RESET_POINT is wanted: the model's choice (log 34). -/
def Yard.washFault (e : Env) (p : PointId) (code quantity : Nat) (y : Yard) : Yard :=
  match y.point? p with
  | none => y
  | some q =>
    let y1 := y.postFault e q code quantity
    match q.state with
    | .closed | .down => y1
    | .recovering => y1.washDown e p
    | .occupied | .serving =>
      if q.retries < 3 then
        (y1.setPoint p (fun q =>
          { q with
            state := .recovering, retries := q.retries + 1
            recoveryTimer := some (minutes e.params.recoveryWait) })).wantPoint p .resetPoint
      else y1.washDown e p
    | .free | .frozen | .calling | .clearing => (y1.undoTurn e p).startRecovery e p Point.vacated

/-- POINT_READY at a wash lane (R89). -/
def Yard.washReady (e : Env) (p : PointId) (y : Yard) : Yard :=
  match y.point? p with
  | none => y
  | some q =>
    if q.state = .recovering then
      let y1 := y.setPoint p (fun q => { q with recoveryTimer := none })
      let y2 := y1.post e .pointUp 0 (some (.point p)) PointState.recovering.code 0
      match q.bus with
      | none => y2.freePoint p
      | some f =>
        if y2.servingAt p f = false then y2.toClearing p
        else if y2.frost then (y2.frostWash e f q.passesLeft (some (.point p))).toClearing p
        else y2.orderPass p
    else y

/-- A wash lane's recovery timer expires (R89). -/
def Yard.washRecoveryLapse (e : Env) (p : PointId) (y : Yard) : Yard :=
  match y.point? p with
  | none => y
  | some q => if q.state = .recovering ∧ q.recoveryTimer.isSome then y.washDown e p else y

/-- The wash lane's own part of a POINT_CLEAR (R90). -/
def Yard.washClear (e : Env) (p : PointId) (named : Option Nat) (y : Yard) : Yard :=
  match y.point? p with
  | none => y
  | some q =>
    match q.state with
    | .clearing => if named.isNone || named == q.bus then y.freePoint p else y
    | .occupied | .serving => if q.ownClear named then (y.leftEarly e q).freePoint p else y
    | .recovering =>
      if q.ownClear named then
        (y.leftEarly e q).vacatePoint p (fun q => { q with bus := none, program := none, passesLeft := 0 })
      else y
    | .free | .calling | .closed | .down | .frozen => y

/-- One entry of the WASH queue met by the frost (R91 step 2). -/
def Yard.frostEntry (e : Env) (y : Yard) (t : PoolEntry) : Yard :=
  match t.status with
  | .waiting => y.frostWash e t.bus t.request.passes none
  | .called p =>
    let y1 := y.setPoint p (fun q => { q with callTimer := none })
    ((y1.releaseClaim t.bus .call).withdrawCall p).frostWash e t.bus t.request.passes (some (.point p))
  | .serving _ => y

/-- FROST_SET on that finds the flag off (R91). -/
def Yard.frostOn (e : Env) (y : Yard) : Yard :=
  let y1 := y.washQueue.foldl (Yard.frostEntry e) { y with frost := true }
  { y1 with
    points := y1.points.map (fun q => if q.id.isWash ∧ q.state = .free then { q with state := .frozen } else q) }

/-- FROST_SET off that finds the flag on (R92). -/
def Yard.frostOff (y : Yard) : Yard :=
  let y1 : Yard := { y with frost := false }
  { y1 with points := y1.points.map (fun q => if q.state = .frozen then q.freed false else q) }

end Sys2Proof.Machine
end

