-- ==== Sys2Proof/Machine/Claims.lean ====
section
/-!
DEFINITION. The claims of a bus's plan given back (R53), the abort of a plan, and the teardown of a withdrawn bus (R21).
-/
namespace Sys2Proof.Machine

/-- A call of an aborted or withdrawn bus (R65): the call withdrawn at its point and the CALL claim released. -/
def Yard.dropCall (f : Nat) (y : Yard) : Yard :=
  let y1 :=
    match y.callingPoint? f with
    | some q => y.withdrawCall q.id
    | none => y
  y1.releaseClaim f .call

/-- The bus's reservation is dropped, the SHUNT claim released if the ENTRY was set by a SHUNT, the marker cleared and the berth wait
list re-run (R53). Each lane's sign follows its own change at once, as R117 recomputes it, so the target's SIGN is wanted before that
of the lane the bus stands in: the model's choice beside Table 3-6, which names the sign last (log 32). -/
def Yard.dropBerth (e : Env) (f : Nat) (y : Yard) : Yard :=
  let y1 :=
    match y.reservation? f with
    | some (n, _) => y.dropReservation n f
    | none => y
  let y2 := if (y.bus? f).any (fun b => b.shuntMarker.isSome) then y1.releaseClaim f .shunt else y1
  (y2.setBus f (fun b => { b with shuntMarker := none })).rerunWaits e

/-- The claims given back according to the plan wait (Table 3-6). -/
def Yard.giveBack (e : Env) (b : Bus) (y : Yard) : Yard :=
  match b.wait with
  | .turn => y.freeTurn b.fleet
  | .called => (y.dropCall b.fleet).freeTurn b.fleet
  | .serving => y.freeTurn b.fleet
  | .hold => y.setBus b.fleet (fun b => { b with holdTimer := none })
  | .berth => y.leaveWaits b.fleet
  | .entry => y.dropBerth e b.fleet
  | .noPlan | .ended | .stalled | .faulted => y

/-- PLAN_ABORT taken for a bus (R53). -/
def Yard.abortPlan (e : Env) (b : Bus) (y : Yard) : Yard :=
  (y.giveBack e b).setBus b.fleet (fun b =>
    { b with wait := .noPlan, cursor := none, stack := [], repeatCount := none, fault := none })

/-- A service point that still names the bus keeps its state with its bus field absent (R21 step 5). -/
def Yard.forgetBus (f : Nat) (y : Yard) : Yard :=
  if y.named f then
    ({ y with points := y.points.map (fun q => if q.bus = some f then { q with bus := none } else q) } : Yard).raise
  else y

/-- The turn a withdrawn bus holds is freed, and a call of it withdrawn (R21 step 1). -/
def Yard.dropTurn (b : Bus) (y : Yard) : Yard :=
  (if b.wait = .called then y.dropCall b.fleet else y).freeTurn b.fleet

/-- Every reservation the bus holds is dropped, its lane's sign updated (R21 step 4; R101: at most one). -/
def Yard.unreserveAll (f : Nat) (y : Yard) : Yard :=
  ((y.lanes.filter (fun l => l.reservations.any (fun r => r.bus == f))).map Lane.number).foldl
    (fun y n => y.dropReservation n f) y

/-- Every claim that names the bus is taken back (R21, R65, R113). -/
def Yard.unclaimAll (f : Nat) (y : Yard) : Yard :=
  ((y.lanes.filter (fun l => l.release.map Prod.fst == some f)).map Lane.number).foldl (fun y n => y.clearRelease n) y

/-- What the lanes hold of the bus is given back: its reservation, with a re-run of the berth wait list, and its claim (R21). -/
def Yard.dropFromLanes (e : Env) (f : Nat) (y : Yard) : Yard :=
  let y1 := (y.unreserveAll f).unclaimAll f
  if (y.reservation? f).isSome then y1.rerunWaits e else y1

/-- The teardown of a withdrawn bus (R21). Its hold timer goes with its record. -/
def Yard.tearDown (e : Env) (b : Bus) (y : Yard) : Yard :=
  let y1 := ((y.dropTurn b).leaveWaits b.fleet).dropFromLanes e b.fleet
  let y2 := (y1.forgetBus b.fleet).dropDeparture b.fleet
  { y2 with fleet := y2.fleet.filter (fun c => c.fleet != b.fleet) }

end Sys2Proof.Machine
end

