-- ==== Sys2Proof/Machine/Bytes.lean ====
section
/-!
DEFINITION. Bytes and checks of both links: big-endian numbers (0.5, 11.6), the check of R181, the host frame of Table 11-4.
-/
namespace Sys2Proof.Machine

/-- A 1-byte field (11.6). -/
def u8 (n : Nat) : List Byte := [BitVec.ofNat 8 n]

/-- A 2-byte field, most significant byte first (0.5). -/
def u16 (n : Nat) : List Byte := [BitVec.ofNat 8 (n / 256), BitVec.ofNat 8 n]

/-- A 3-byte field, most significant byte first (0.5). -/
def u24 (n : Nat) : List Byte := [BitVec.ofNat 8 (n / 65536), BitVec.ofNat 8 (n / 256), BitVec.ofNat 8 n]

/-- A flag: 0 off, 1 on (11.6). -/
def uFlag (b : Bool) : List Byte := u8 (if b then 1 else 0)

/-- A step address or slot minute that is absent is sent as 65,535 (11.6). -/
def u16Absent : Option Nat → List Byte
  | some n => u16 n
  | none => u16 65535

/-- The 1-byte field at an offset. -/
def byteAt (b : List Byte) (i : Nat) : Nat := (b.getD i 0).toNat

/-- The 2-byte field at an offset. -/
def wordAt (b : List Byte) (i : Nat) : Nat := byteAt b i * 256 + byteAt b (i + 1)

/-- The 3-byte field at an offset. -/
def tripleAt (b : List Byte) (i : Nat) : Nat := byteAt b i * 65536 + wordAt b (i + 1)

/-- A 2-byte field that 65,535 marks absent (11.6). -/
def wordAtAbsent (b : List Byte) (i : Nat) : Option Nat :=
  if wordAt b i = 65535 then none else some (wordAt b i)

/-- A fleet number field: 0 is absent (0.5). -/
def fleetAt (b : List Byte) (i : Nat) : Option Nat :=
  if wordAt b i = 0 then none else some (wordAt b i)

/-- The check register before the first byte: all ones (R181). -/
def crcStart : Word := 0xFFFF#16

/-- One bit fed into the check register, most significant bit first (R181: x^16 + x^12 + x^5 + 1). -/
def crcShift (c : Word) : Word :=
  if c.getLsbD 15 then (c <<< 1) ^^^ 0x1021#16 else c <<< 1

/-- `n` bits fed. -/
def crcShifts : Nat → Word → Word
  | 0, c => c
  | n + 1, c => crcShifts n (crcShift c)

/-- One byte fed into the check register (R181). -/
def crcByte (c : Word) (b : Byte) : Word := crcShifts 8 (c ^^^ (b.setWidth 16 <<< 8))

/-- The check over a run of bytes (R181). -/
def crc16 (bytes : List Byte) : Word := bytes.foldl crcByte crcStart

/-- The check's two bytes, high byte first (R181). -/
def crcBytes (c : Word) : List Byte := u16 c.toNat

/-- A yard-line frame: its fields, then the check over them (11.6.5). -/
def lineFrame (fields : List Byte) : List Byte := fields ++ crcBytes (crc16 fields)

/-- A host frame: start, length, body, check over length and body (Table 11-4). The length byte of a body above 255 bytes wraps, the
model's choice (log 35). -/
def hostFrameOf (body : List Byte) : List Byte :=
  0xA5#8 :: (u8 body.length ++ body ++ crcBytes (crc16 (u8 body.length ++ body)))

end Sys2Proof.Machine
end

