-- ==== Sys2Proof/Machine/Frames.lean ====
section
/-!
DEFINITION. Yard-line frames (Tables 11-8 to 11-10) and the classification of an answer window (R144).
-/
namespace Sys2Proof.Machine

/-! ### Master frames (Table 11-8) -/

/-- ROUND_START of a class. -/
def roundStartFields (c : RoundClass) : List Byte := u8 0 ++ u8 1 ++ u8 c.code

/-- GROUP_POLL of a group. -/
def groupPollFields (g : Group) : List Byte := u8 0 ++ u8 2 ++ u8 g.len ++ u8 g.bits

/-- TAKEN to a station. -/
def takenFields (address : Nat) : List Byte := u8 address ++ u8 3

/-- Codes of a sign's mode. -/
def SignMode.code : SignMode → Nat
  | .open => 0 | .hold => 1 | .closed => 2

/-- A sign content's bytes. -/
def SignContent.bytes (c : SignContent) : List Byte :=
  u8 c.mode.code ++ u16 c.expected1 ++ u16 c.expected2 ++ u16 c.expected3 ++ u16 c.release

/-- An order with its arguments. -/
def Order.bytes : Order → List Byte
  | .sign content => u8 1 ++ content.bytes
  | .confirmFront => u8 2
  | .call fleet => u8 3 ++ u16 fleet
  | .clearCall => u8 4
  | .resetPoint => u8 5
  | .startPass program => u8 6 ++ u8 program

/-- COMMAND to a station. -/
def commandFields (c : LineCommand) : List Byte := u8 c.station ++ u8 4 ++ c.order.bytes

/-- Ask operation codes. -/
def AskOp.code : AskOp → Nat
  | .test => 1 | .read => 2 | .write => 3

/-- ASK to a station. -/
def askFields (a : Ask) : List Byte := u8 a.address ++ u8 5 ++ u8 a.op.code ++ u8 a.item ++ u16 a.value

/-! ### Station frames (Tables 11-9, 11-10) -/

/-- Report kinds (Table 11-10). -/
inductive ReportKind where
  | arrived | left | atPoint | pointFault | exited | tagSeen | entered | occupancy | serviceStarted
  | fuelDone | washDone | pointClear | pointReady
deriving DecidableEq, Repr

/-- Report kind codes (Table 11-10). -/
def ReportKind.code : ReportKind → Nat
  | .arrived => 1 | .left => 2 | .atPoint => 3 | .pointFault => 4 | .exited => 5 | .tagSeen => 6 | .entered => 7
  | .occupancy => 8 | .serviceStarted => 9 | .fuelDone => 10 | .washDone => 11 | .pointClear => 12
  | .pointReady => 13

/-- The report kind of a code. -/
def ReportKind.ofCode : Nat → Option ReportKind
  | 1 => some .arrived | 2 => some .left | 3 => some .atPoint | 4 => some .pointFault | 5 => some .exited
  | 6 => some .tagSeen | 7 => some .entered | 8 => some .occupancy | 9 => some .serviceStarted
  | 10 => some .fuelDone | 11 => some .washDone | 12 => some .pointClear | 13 => some .pointReady
  | _ => none

/-- A station's report; `fleet` 0 is absent, `quantity` 0 where absent, `mask` empty but for OCCUPANCY. -/
structure Report where
  turn : Bool
  more : Bool
  kind : ReportKind
  fleet : Nat
  quantity : Nat
  mask : BitVec 12
deriving DecidableEq, Repr

/-- A station's answer. -/
inductive Answer where
  | report (r : Report)
  | accepted
  | notReady (status : Nat)
  | ready (value : Nat)
deriving DecidableEq, Repr

/-- The highest quantity or code a report kind carries. -/
def ReportKind.limit : ReportKind → Nat
  | .pointFault => 255
  | .arrived | .left | .atPoint | .exited | .tagSeen | .entered | .occupancy | .serviceStarted | .fuelDone
  | .washDone | .pointClear | .pointReady => 9999

/-- Bytes of a report payload. -/
def ReportKind.length : ReportKind → Nat
  | .occupancy => 8
  | .arrived | .left | .atPoint | .exited | .tagSeen | .entered | .pointFault | .serviceStarted | .fuelDone
  | .washDone | .pointClear | .pointReady => 6

/-- The report a payload holds, if every field is in its range (R144, Table 11-10; log 19). -/
def readReport (p : List Byte) : Option Report :=
  match ReportKind.ofCode (byteAt p 1) with
  | none => none
  | some kind =>
    let flags := byteAt p 0
    let fleet := wordAt p 2
    let quantity := wordAt p 4
    let mask := if kind = .occupancy then wordAt p 6 else 0
    if p.length = kind.length ∧ flags < 8 ∧ fleet ≤ 9999 ∧ quantity ≤ kind.limit ∧ (4 ≤ flags ∨ quantity = 0)
        ∧ mask < 4096 then
      some
        { turn := flags % 2 == 1, more := flags / 2 % 2 == 1, kind, fleet, quantity, mask := BitVec.ofNat 12 mask }
    else none

/-- The answer of a kind and payload (Table 11-9). -/
def readAnswer (kind : Nat) (p : List Byte) : Option Answer :=
  if kind = 1 then (readReport p).map Answer.report
  else if kind = 2 then (if p = [] then some .accepted else none)
  else if kind = 3 then (if p.length = 1 ∧ 1 ≤ byteAt p 0 then some (.notReady (byteAt p 0)) else none)
  else if kind = 4 then (if p.length = 2 then some (.ready (wordAt p 0)) else none)
  else none

/-- The bytes of an answer's characters; none when one had a framing error. -/
def charBytes : List RxChar → Option (List Byte)
  | [] => some []
  | .byte b :: rest => (charBytes rest).map (b :: ·)
  | .framingError :: _ => none

/-- The address and answer a station frame holds, if its check is good and its fields stand (R144). -/
def readStation (chars : List RxChar) : Option (Nat × Answer) :=
  match charBytes chars with
  | none => none
  | some bytes =>
    let n := bytes.length - 2
    let fields := bytes.take n
    if 4 ≤ bytes.length ∧ bytes.drop n = crcBytes (crc16 fields) ∧ 1 ≤ byteAt fields 0 ∧ byteAt fields 0 ≤ 63 then
      (readAnswer (byteAt fields 1) (fields.drop 2)).map (fun a => (byteAt fields 0, a))
    else none

/-- The outcome of an answer window (R144). -/
inductive WindowOutcome where
  | silent
  | garbled
  | valid (address : Nat) (answer : Answer)
deriving DecidableEq, Repr

/-- The classification of a window: `fits` says which addresses and answers the function allows (R144). -/
def classify (fits : Nat → Answer → Bool) : AnswerWindow → WindowOutcome
  | .silent => .silent
  | .answer chars inTime =>
    match readStation chars with
    | some (address, a) => if inTime && fits address a then .valid address a else .garbled
    | none => .garbled

/-- Answers a round poll allows (Table 8-2). -/
def Answer.isReport : Answer → Bool
  | .report _ => true
  | .accepted | .notReady _ | .ready _ => false

/-- Answers a COMMAND allows (Table 8-2). -/
def Answer.toCommand : Answer → Bool
  | .accepted | .notReady _ => true
  | .report _ | .ready _ => false

/-- Answers an ASK allows (Table 8-2). -/
def Answer.toAsk : Answer → Bool
  | .ready _ | .notReady _ => true
  | .report _ | .accepted => false

/-- The group contains the address: its leading bits equal the prefix (9.3). -/
def Group.contains (g : Group) (address : Nat) : Bool := address / 2 ^ (6 - g.len) == g.bits

end Sys2Proof.Machine
end

