-- ==== Sys2Proof/Machine/Reports.lean ====
section
/-!
DEFINITION. Station health (R152, R153), the routing of a collected report (R150, R151, R22) and what its owner does with it; the outcome
of a command handed to its owner (R61, R81, R117).
-/
namespace Sys2Proof.Machine

/-! ### Faults of a point, by its kind -/

/-- A fault at a point (R72, R87). -/
def Yard.pointFaulted (e : Env) (p : PointId) (code quantity : Nat) (y : Yard) : Yard :=
  match p with
  | .island _ => y.islandFault e p code quantity
  | .wash _ => y.washFault e p code quantity

/-- POINT_READY at a point (R73, R89). -/
def Yard.pointReady (e : Env) (p : PointId) (y : Yard) : Yard :=
  match p with
  | .island _ => y.islandReady e p
  | .wash _ => y.washReady e p

/-- The point's own part of a POINT_CLEAR (R71, R90). -/
def Yard.pointClear (e : Env) (p : PointId) (named : Option Nat) (y : Yard) : Yard :=
  match p with
  | .island _ => y.islandClear e p named
  | .wash _ => y.washClear e p named

/-! ### Health -/

/-- "Station lost" handed to the owner of the served object (R152). -/
def Yard.ownerLost (e : Env) (served : Option Place) (y : Yard) : Yard :=
  match served with
  | none => y
  | some (.lane n) => y.laneDark n
  | some (.point p) => y.pointStationLost e p

/-- "Station alive" handed to the owner (R153). -/
def Yard.ownerAlive (e : Env) (served : Option Place) (y : Yard) : Yard :=
  match served with
  | none => y
  | some (.lane n) => y.laneAlive e n
  | some (.point p) => y.pointStationAlive e p

/-- A failure of a station counted (R152). -/
def Yard.stationFailure (e : Env) (address : Nat) (y : Yard) : Yard :=
  match y.station? address with
  | none => y
  | some t =>
    let count := satAdd 3 t.failures 1
    if count = 3 ∧ t.state ≠ .lost then
      let y1 := y.setStation address (fun t => { t with failures := count, state := .lost })
      (y1.post e .stationLost 0 t.served t.kind.code address).ownerLost e t.served
    else y.setStation address (fun t => { t with failures := count })

/-- A VALID answer of a station taken by the health rules (R153). -/
def Yard.stationValid (e : Env) (address : Nat) (y : Yard) : Yard :=
  match y.station? address with
  | none => y
  | some t =>
    let y1 := y.setStation address (fun t => { t with failures := 0, state := .alive })
    match t.state with
    | .alive => y1
    | .unknown => y1.ownerAlive e t.served
    | .lost => (y1.post e .stationBack 0 t.served t.kind.code address).ownerAlive e t.served

/-! ### Owners of reports -/

/-- The fleet field, if it names a bus of the map (R22). -/
def Yard.known? (y : Yard) (r : Report) : Option Nat := (y.bus? r.fleet).map Bus.fleet

/-- A gate ARRIVED of a known bus (R23). -/
def Yard.gateArrived (e : Env) (f : Nat) (y : Yard) : Yard :=
  match y.bus? f with
  | none => y
  | some b =>
    let y1 := (y.reportPosition e true f .loose).post e .busArrived f none b.position.code 0
    if b.wait.startable then
      match b.homePlan with
      | some a => y1.planStart e f a
      | none => y1.post e .noPlan f none 0 0
    else y1

/-- A gate LEFT of a known bus (R24). -/
def Yard.gateLeft (e : Env) (f : Nat) (y : Yard) : Yard := (y.reportPosition e true f .outside).handLeft e f

/-- A report at the gate (R22 to R24). -/
def Yard.gateReport (e : Env) (r : Report) (y : Yard) : Yard :=
  match y.known? r with
  | none => y
  | some f =>
    match r.kind with
    | .arrived => y.gateArrived e f
    | .left => y.gateLeft e f
    | .atPoint | .pointFault | .exited | .tagSeen | .entered | .occupancy | .serviceStarted | .fuelDone | .washDone
    | .pointClear | .pointReady => y

/-- A report of a loop station (R104, R109, R111, R112). -/
def Yard.laneReport (e : Env) (n : Nat) (r : Report) (y : Yard) : Yard :=
  match r.kind with
  | .entered =>
    match y.known? r with
    | some f => y.enteredKnown e n f
    | none => y.enteredUnknown e n
  | .exited =>
    match y.known? r with
    | some f => y.exitedKnown e n f
    | none => y.exitedUnknown e n
  | .occupancy => y.occupancy e n r.mask
  | .tagSeen => y.tagSeen e n (y.known? r)
  | .arrived | .left | .atPoint | .pointFault | .serviceStarted | .fuelDone | .washDone | .pointClear
  | .pointReady => y

/-- A POINT_CLEAR (R71, R90): the position report for the bus it names, or for the point's bus; then the point's part. -/
def Yard.clearReport (e : Env) (p : PointId) (r : Report) (y : Yard) : Yard :=
  let named := if r.fleet = 0 then none else some r.fleet
  let gone := named.or ((y.point? p).bind Point.bus)
  let y1 :=
    match gone with
    | some f => y.reportCleared p f
    | none => y
  y1.pointClear e p named

/-- A report of a point's station (R67 to R73, R83 to R90). -/
def Yard.pointReport (e : Env) (p : PointId) (r : Report) (y : Yard) : Yard :=
  match r.kind with
  | .atPoint =>
    match y.known? r with
    | some f => (y.reportPosition e true f (.atPoint p)).pointArrival e p f
    | none => y
  | .pointFault => y.pointFaulted e p r.quantity 1
  | .serviceStarted => y.serviceStarted p
  | .fuelDone => if p.isWash then y else y.fuelDone e p r.quantity
  | .washDone => if p.isWash then y.washDone e p else y
  | .pointClear => y.clearReport e p r
  | .pointReady => y.pointReady e p
  | .arrived | .left | .exited | .tagSeen | .entered | .occupancy => y

/-- The report handed to the owner of the station's served object (R150 step 5). -/
def Yard.ownerReport (e : Env) (served : Option Place) (r : Report) (y : Yard) : Yard :=
  match served with
  | none => y.gateReport e r
  | some (.lane n) => y.laneReport e n r
  | some (.point p) => y.pointReport e p r

/-! ### Routing -/

/-- Kinds whose absent fleet field posts UNKNOWN_BUS (R22). -/
def ReportKind.needsFleet : ReportKind → Bool
  | .arrived | .left | .atPoint | .entered | .exited | .tagSeen => true
  | .pointFault | .occupancy | .serviceStarted | .fuelDone | .washDone | .pointClear | .pointReady => false

/-- Kinds the gate takes (R22). -/
def ReportKind.atGate : ReportKind → Bool
  | .arrived | .left => true
  | .atPoint | .entered | .exited | .tagSeen | .pointFault | .occupancy | .serviceStarted | .fuelDone | .washDone
  | .pointClear | .pointReady => false

/-- The fleet field resolved against the fleet-number map (R22, R27). -/
def Yard.resolve (e : Env) (t : Station) (r : Report) (y : Yard) : Yard :=
  if (y.bus? r.fleet).isSome then y.reload e r.fleet
  else if r.fleet ≠ 0 ∨ r.kind.needsFleet then y.post e .unknownBus r.fleet t.served r.kind.code t.address
  else y

/-- A collected report routed (R150 steps 2 to 5; the health rules have taken the answer). -/
def Yard.routeReport (e : Env) (address : Nat) (r : Report) (y : Yard) : Yard :=
  match y.station? address with
  | none => y
  | some t =>
    if t.turnBit = some r.turn then y
    else
      let y1 := y.setStation address (fun t => { t with turnBit := some r.turn })
      if t.kind = .gate ∧ r.kind.atGate = false then y1
      else (y1.resolve e t r).ownerReport e t.served r

/-! ### Outcomes of commands -/

/-- Outcomes of a command (R149); LINE_RESET is taken in a restart (R156). -/
inductive CommandOutcome where
  | accepted
  | notReady (status : Nat)
  | failed
deriving DecidableEq, Repr

/-- A point queues its deferred command, if it holds one (R61, R81). -/
def Yard.queueDeferred (p : PointId) (y : Yard) : Yard :=
  match y.point? p with
  | none => y
  | some q =>
    match q.deferred with
    | none => y
    | some order => (y.setPoint p (fun q => { q with deferred := none })).queueCommand (.point p) q.station order

/-- The command in flight ends with an outcome handed to its owner (R149): the owner acts on it, then the command is no
longer outstanding, then a point queues its deferred command. -/
def Yard.endCommand (e : Env) (c : LineCommand) (o : CommandOutcome) (y : Yard) : Yard :=
  match c.owner with
  | .lane n =>
    let y1 : Yard := { y with inFlight := none }
    match c.order, o with
    | .sign content, .accepted => y1.setLane n (fun l => { l with lastSign := some content })
    | _, _ => y1
  | .point p =>
    let y1 :=
      match o with
      | .notReady status => y.pointFaulted e p status 2
      | .accepted => y
      | .failed => y
    ({ y1 with inFlight := none } : Yard).queueDeferred p

end Sys2Proof.Machine
end

