-- ==== Sys2Proof/Machine/YardLine.lean ====
section
/-!
DEFINITION. The yard line: what the arbiter grants (R147), how an exchange goes on (R143), round polls (R161-R169), command attempts
(R149), host asks (R155) and the restart of the line (R156, R157).
-/
namespace Sys2Proof.Machine

/-- An event that does nothing while RSTN is held low (R13, log 6). -/
def State.powered (g : State → State) (s : State) : State := if s.rstnLow then s else g s

/-- A change of the yard's records, by the environment. -/
def State.onYard (g : Env → Yard → Yard) (s : State) : State := { s with yard := g s.env s.yard }

/-! ### Exchanges -/

/-- A master frame begins, YLDE raised, for a holder of the line; its answer window follows (R143; log 10). -/
def Line.exchange (holder : LineHolder) (fields : List Byte) (l : Line) : Line :=
  { l with holder := some holder, phase := .window, ylde := true, frame := lineFrame fields }

/-- The last character of a master frame has ended: YLDE is lowered, and what follows the frame, its answer window or the idle wait
after a TAKEN, stands as it is (R143; log 10). -/
def Line.frameEnds (l : Line) : Line := { l with ylde := false }

/-- The frame and its window have ended; YLDE is low and the idle wait runs (R143). The holder stands until the line is free, also after
its last exchange: the model's choice (log 36). -/
def Line.endWindow (l : Line) : Line := { l with phase := .idleWait, ylde := false }

/-- The line becomes free, YLDE low (R143, R147). -/
def Line.freed (l : Line) : Line := { l with holder := none, phase := .free, ylde := false }

/-- A TAKEN begins, YLDE raised; it opens no window, and the idle wait follows it (R143; log 10). -/
def Line.sendTaken (address : Nat) (l : Line) : Line :=
  { l with phase := .idleWait, ylde := true, frame := lineFrame (takenFields address) }

/-- The block with no command in front: a master frame being sent ends (R143; logs 3, 10). -/
def State.idle (s : State) : State := { s with line := s.line.frameEnds }

/-- An exchange of this holder has its answer window before it or open. -/
def State.windowOpen (s : State) (holder : LineHolder) : Bool :=
  !s.rstnLow && s.line.holder == some holder && s.line.phase == .window

/-! ### Rounds -/

/-- The all-group (9.3). -/
def Group.all : Group := { len := 0, bits := 0 }

/-- The 0-half (9.3). -/
def Group.zeroHalf (g : Group) : Group := { len := g.len + 1, bits := 2 * g.bits }

/-- The 1-half (9.3). -/
def Group.oneHalf (g : Group) : Group := { len := g.len + 1, bits := 2 * g.bits + 1 }

/-- The poll of a group (R163). -/
def pollFields (c : RoundClass) (g : Group) : List Byte :=
  if g.len = 0 then roundStartFields c else groupPollFields g

/-- The round state made IDLE, its stack cleared (R168, R169, R170). -/
def Rounds.idle (r : Rounds) : Rounds :=
  { r with active := none, count := 0, garbles := 0, stack := [], taken := none }

/-- The top group popped; a stack left empty ends the round (R163, R164, R166, R168). -/
def Rounds.pop (r : Rounds) : Rounds :=
  match r.stack.drop 1 with
  | [] => r.idle
  | g :: rest => { r with stack := g :: rest, garbles := 0 }

/-- The top group split (R165). -/
def Rounds.split (g : Group) (r : Rounds) : Rounds :=
  { r with stack := g.zeroHalf :: g.oneHalf :: r.stack.drop 1, garbles := 0 }

/-- The next poll of the round, on the top of its stack (R163). -/
def State.poll (c : RoundClass) (s : State) : State :=
  match s.rounds.stack with
  | [] => s
  | g :: _ =>
    { s with
      rounds := { s.rounds with count := s.rounds.count + 1 }
      line := s.line.exchange .round (pollFields c g) }

/-- A granted round begins (R161). -/
def State.beginRound (c : RoundClass) (s : State) : State :=
  let due : Rounds :=
    match c with
    | .urgent => { s.rounds with urgentDue := false }
    | .routine => { s.rounds with routineDue := false }
  { s with
    rounds := { due with active := some c, count := 0, garbles := 0, stack := [Group.all], taken := none } }.poll c

/-- A round cut at its exchange limit (R169). -/
def State.cutRound (c : RoundClass) (s : State) : State :=
  { s with
    yard := s.yard.post s.env .roundCut 0 none c.code s.rounds.stack.length
    rounds := s.rounds.idle
    line := s.line.freed }

/-- The TAKEN owed to a VALID answer is sent (R164 steps 2 and 3); it opens no window. -/
def State.sendTaken (t : TakenOwed) (s : State) : State :=
  let r : Rounds := { s.rounds with count := s.rounds.count + 1, taken := none }
  { s with
    rounds := if t.pop then r.pop else r
    line := s.line.sendTaken t.address }

/-- The round goes on, or the line becomes free, at the end of an idle wait (R163, R164, R168, R169). -/
def State.roundGoesOn (s : State) : State :=
  match s.rounds.taken, s.rounds.active with
  | some t, _ => s.sendTaken t
  | none, some c => if Config.exchangeLimit ≤ s.rounds.count then s.cutRound c else s.poll c
  | none, none => { s with line := s.line.freed }

/-- A GARBLED poll (R165, R166). -/
def State.pollGarbled (g : Group) (s : State) : State :=
  if g.len < 6 then { s with rounds := s.rounds.split g }
  else
    let garbles := s.rounds.garbles + 1
    { s with
      yard := s.yard.stationFailure s.env g.bits
      rounds := if 2 ≤ garbles then s.rounds.pop else { s.rounds with garbles } }

/-- A VALID poll (R164 step 1, and the TAKEN it is owed). -/
def State.pollValid (g : Group) (address : Nat) (a : Answer) (s : State) : State :=
  match a with
  | .report r =>
    { s with
      yard := (s.yard.stationValid s.env address).routeReport s.env address r
      rounds := { s.rounds with taken := some { address, pop := g.len == 6 && !r.more } } }
  | .accepted => s
  | .notReady _ => s
  | .ready _ => s

/-- A round poll's answer window ends (R163). -/
def State.pollAnswer (w : AnswerWindow) (s : State) : State :=
  match s.windowOpen .round, s.rounds.stack with
  | true, g :: _ =>
    let s1 : State := { s with line := s.line.endWindow }
    match classify (fun address a => a.isReport && g.contains address) w with
    | .silent => { s1 with rounds := s1.rounds.pop }
    | .garbled => s1.pollGarbled g
    | .valid address a => s1.pollValid g address a
  | _, _ => s

/-! ### Commands -/

/-- "Taken for sending" handed to the owner (R148, R117). -/
def Yard.handTaken (owner : Place) (y : Yard) : Yard :=
  match owner with
  | .lane n => y.takenForSending n
  | .point _ => y

/-- A command attempt goes out (R149). -/
def State.sendCommand (c : LineCommand) (s : State) : State :=
  { s with line := s.line.exchange .command (commandFields c) }

/-- The oldest command granted (R148). -/
def State.grantCommand (c : LineCommand) (s : State) : State :=
  let y1 : Yard := { s.yard with cmdQueue := s.yard.cmdQueue.drop 1, inFlight := some { command := c, retry := false } }
  ({ s with yard := y1.handTaken c.owner } : State).sendCommand c

/-- A VALID command answer's outcome (R149). -/
def Answer.outcome : Answer → CommandOutcome
  | .notReady status => .notReady status
  | .accepted | .report _ | .ready _ => .accepted

/-- A command attempt's answer window ends (R149). -/
def State.commandAnswer (w : AnswerWindow) (s : State) : State :=
  match s.windowOpen .command, s.yard.inFlight with
  | true, some f =>
    let c := f.command
    let s1 : State := { s with line := s.line.endWindow }
    match classify (fun address a => a.toCommand && address == c.station) w with
    | .valid address a =>
      s1.onYard (fun e y => (y.stationValid e address).endCommand e c a.outcome)
    | .silent | .garbled =>
      if f.retry then s1.onYard (fun e y => (y.stationFailure e c.station).endCommand e c .failed)
      else
        s1.onYard (fun e y =>
          { y.stationFailure e c.station with inFlight := some { command := c, retry := true } })
  | _, _ => s

/-! ### Host asks -/

/-- The oldest ask granted (R155). -/
def State.sendAsk (a : Ask) (s : State) : State := { s with line := s.line.exchange .ask (askFields a) }

/-- ASK_RESULT (R155). -/
def Yard.askResult (e : Env) (a : Ask) (code quantity : Nat) (y : Yard) : Yard :=
  y.post e .askResult a.tag.toNat none code quantity

/-- The result of an ask's window (R155): code and quantity. -/
def WindowOutcome.askCode : WindowOutcome → Nat × Nat
  | .valid _ (.ready value) => (1, value)
  | .valid _ (.notReady status) => (2, status)
  | .valid _ (.report _) | .valid _ .accepted | .garbled => (4, 0)
  | .silent => (3, 0)

/-- An ask's VALID answer taken by the health rules (R155, R153). -/
def Yard.askHealth (e : Env) (o : WindowOutcome) (y : Yard) : Yard :=
  match o with
  | .valid address _ => y.stationValid e address
  | .silent => y
  | .garbled => y

/-- A host ask's answer window ends (R155). -/
def State.askAnswer (w : AnswerWindow) (s : State) : State :=
  match s.windowOpen .ask, s.line.asks with
  | true, a :: rest =>
    let o := classify (fun address b => b.toAsk && address == a.address) w
    { s with
      line := { s.line.endWindow with asks := rest }
      yard := (s.yard.askHealth s.env o).askResult s.env a o.askCode.1 o.askCode.2 }
  | _, _ => s

/-! ### The arbiter -/

/-- The arbiter grants the free line (R147). -/
def State.grant (s : State) : State :=
  if s.line.phase ≠ .free then s
  else if s.rounds.urgentDue then s.beginRound .urgent
  else
    match s.yard.cmdQueue, s.line.asks with
    | c :: _, _ => s.grantCommand c
    | [], a :: _ => s.sendAsk a
    | [], [] => if s.rounds.routineDue then s.beginRound .routine else s

/-- The idle wait after an exchange ends (R143): the grant's next exchange, or the line free. -/
def State.idleWaitEnd (s : State) : State :=
  if s.line.phase ≠ .idleWait then s
  else
    match s.line.holder with
    | some .round => s.roundGoesOn
    | some .command =>
      match s.yard.inFlight with
      | some f => s.sendCommand f.command
      | none => { s with line := s.line.freed }
    | some .ask => { s with line := s.line.freed }
    | none => { s with line := s.line.freed }

/-! ### Restart -/

/-- Commands discarded by a restart, the one in flight included (R156 step 5). -/
def Yard.commandCount (y : Yard) : Nat :=
  y.cmdQueue.length + (match y.inFlight with | some _ => 1 | none => 0)

/-- LINE_RESET handed to every owner of a command, and every station made UNKNOWN (R156 steps 2 and 4). -/
def Yard.resetLine (y : Yard) : Yard :=
  { y with
    cmdQueue := []
    inFlight := none
    lanes := y.lanes.map (fun l => { l with signPending := false, confirmPending := false })
    points := y.points.map (fun q => { q with deferred := none })
    stations := y.stations.map (fun t => { t with state := .unknown, failures := 0, turnBit := none }) }

/-- "Line restarted" handed to every owner: lanes by ascending number, then islands, then wash lanes (R157). -/
def Yard.ownersRestarted (e : Env) (y : Yard) : Yard :=
  let y1 := (y.lanes.map Lane.number).foldl (fun y n => y.laneRestarted e n) y
  (y1.points.map Point.id).foldl (fun y p => y.pointRestarted p) y1

/-- The line after an exchange in flight is cut and the asks removed (R156 steps 1 and 3): YLDE low, a frame that YLDE shows being sent
not whole, and an idle line awaited before the next master frame (R143; log 12). -/
def Line.cut (l : Line) : Line :=
  { holder := none
    phase := if l.phase = .free then .free else .idleWait
    ylde := false
    frame := if l.ylde then [] else l.frame
    asks := [] }

/-- The round engine after a LINE_RESTART (R160, R170, R157). -/
def Rounds.restarted (mode : YardMode) (r : Rounds) : Rounds :=
  match mode with
  | .running => { r.idle with urgentDue := true, routineDue := true }
  | .unconfigured => r.idle

/-- LINE_RESTART's effects (R156 steps 1 to 6). -/
def State.restartLine (s : State) : State :=
  let asks := s.line.asks
  let commands := s.yard.commandCount
  let y1 := asks.foldl (fun y a => y.askResult s.env a 5 0) s.yard.resetLine
  let y2 := y1.post s.env .lineRestarted 0 none asks.length commands
  { s with line := s.line.cut, rounds := s.rounds.restarted s.mode, yard := y2.ownersRestarted s.env }

end Sys2Proof.Machine
end

