-- ==== Sys2Proof/Machine/HostLink.lean ====
section
/-!
DEFINITION. The host link: the receive framer (R180, R181), the request queue (R182), the three stages of a taking (R183, R184) and
the outbound transmitter (R185).
-/
namespace Sys2Proof.Machine

/-! ### The receive framer -/

/-- What one character brings about. -/
inductive Received where
  | nothing
  | error
  | body (b : List Byte)
deriving DecidableEq, Repr

/-- One character taken by the framer (R180). -/
def Framer.take : Framer → RxChar → Framer × Received
  | .hunt, .byte b => if b = 0xA5#8 then (.length, .nothing) else (.hunt, .nothing)
  | .hunt, .framingError => (.hunt, .nothing)
  | .length, .byte b =>
    if 2 ≤ b.toNat ∧ b.toNat ≤ 240 then (.body b.toNat [] (crcByte crcStart b), .nothing) else (.hunt, .error)
  | .body len got crc, .byte b =>
    let got1 := got ++ [b]
    let crc1 := crcByte crc b
    if len ≤ got1.length then (.check got1 crc1 none, .nothing) else (.body len got1 crc1, .nothing)
  | .check payload crc none, .byte b => (.check payload crc (some b), .nothing)
  | .check payload crc (some high), .byte b =>
    if crcBytes crc = [high, b] then (.hunt, .body payload) else (.hunt, .error)
  | .length, .framingError => (.hunt, .error)
  | .body _ _ _, .framingError => (.hunt, .error)
  | .check _ _ _, .framingError => (.hunt, .error)

/-- A gap of more than 5 ms (R180). -/
def Framer.gap : Framer → Framer × Received
  | .hunt => (.hunt, .nothing)
  | .length => (.hunt, .error)
  | .body _ _ _ => (.hunt, .error)
  | .check _ _ _ => (.hunt, .error)

/-- The frame error tally rises (R180). -/
def Link.frameError (l : Link) : Link := { l with frameErrors := satAdd 65535 l.frameErrors 1 }

/-! ### The request queue -/

/-- Codes of Table 11-2. -/
inductive Result where
  | ok | unknownKind | badLength | badValue | wrongMode | wrongState | notFound | exists_ | noRoom | busy
deriving DecidableEq, Repr

/-- Codes of Table 11-2. -/
def Result.code : Result → Nat
  | .ok => 0 | .unknownKind => 1 | .badLength => 2 | .badValue => 3 | .wrongMode => 4 | .wrongState => 5
  | .notFound => 6 | .exists_ => 7 | .noRoom => 8 | .busy => 9

/-- A reply: its result, and the data the owning rule names (R184). -/
structure Reply where
  result : Result
  data : List Byte
deriving DecidableEq, Repr

/-- A refusal, which carries no data (R184). -/
def Reply.refuse (r : Result) : Reply := { result := r, data := [] }

/-- OK with data. -/
def Reply.ok (data : List Byte) : Reply := { result := .ok, data }

/-- A reply's body (R184). -/
def replyBody (request : List Byte) (r : Reply) : List Byte :=
  [request.getD 0 0 ||| 0x80#8, request.getD 1 0] ++ u8 r.result.code ++ r.data

/-- BUSY replies waiting (R182). -/
def Link.busyWaiting (l : Link) : Nat := (l.replies.filter WaitingReply.busy).length

/-- A body handed on by the framer (R182). -/
def Link.deliver (body : List Byte) (l : Link) : Link :=
  if l.requests.length < Config.requestRoom then
    { l with requests := l.requests ++ [{ body, answered := false }] }
  else if l.busyWaiting < Config.busyRoom then
    { l with replies := l.replies ++ [{ body := replyBody body (.refuse .busy), busy := true }] }
  else l.frameError

/-- What the framer's event does to the link. -/
def Link.received (r : Framer × Received) (l : Link) : Link :=
  let l1 : Link := { l with framer := r.1 }
  match r.2 with
  | .nothing => l1
  | .error => l1.frameError
  | .body b => l1.deliver b

/-- One character from HRXD. -/
def Link.char (l : Link) (c : RxChar) : Link := l.received (l.framer.take c)

/-- Characters from HRXD, in order. -/
def Link.chars (l : Link) (cs : List RxChar) : Link := cs.foldl Link.char l

/-- A gap of more than 5 ms on HRXD. -/
def Link.gap (l : Link) : Link := l.received l.framer.gap

/-- The body of the oldest WAITING entry. -/
def Link.waiting? (l : Link) : Option (List Byte) := (l.requests.find? (fun r => !r.answered)).map RequestEntry.body

/-- The oldest WAITING entry made ANSWERED. -/
def markAnswered : List RequestEntry → List RequestEntry
  | [] => []
  | r :: rest => if r.answered then r :: markAnswered rest else { r with answered := true } :: rest

/-- The oldest ANSWERED entry freed (R182, R185). -/
def freeAnswered : List RequestEntry → List RequestEntry
  | [] => []
  | r :: rest => if r.answered then rest else r :: freeAnswered rest

/-- The taking ends: the reply is queued and the entry ANSWERED (R182). -/
def Link.answer (body : List Byte) (r : Reply) (l : Link) : Link :=
  { l with
    requests := markAnswered l.requests
    replies := l.replies ++ [{ body := replyBody body r, busy := false }] }

/-! ### Taking a request -/

/-- The request to be taken: none while RSTN is low, before RESET_DONE has begun, or with nothing WAITING (R13, R182). -/
def State.front? (s : State) : Option (List Byte) :=
  if s.rstnLow || s.link.awaitResetDone then none else s.link.waiting?

/-- What one request row takes and does: the bodies that are its own, the layout's length, the modes that accept it, and
the owner's action (R183). -/
structure Request where
  takes : List Byte → Bool
  length : List Byte → Bool
  mode : YardMode → Bool
  act : List Byte → State → State × Reply

/-- The owner's part: the yard mode (R2), then values and state. -/
def Request.own (q : Request) (body : List Byte) (s : State) : State × Reply :=
  if q.mode s.mode then q.act body s else (s, .refuse .wrongMode)

/-- Length, then owner (R183 stages 2 and 3). -/
def Request.result (q : Request) (body : List Byte) (s : State) : State × Reply :=
  if q.length body then q.own body s else (s, .refuse .badLength)

/-- The reply is queued when the effects are complete (R183). -/
def State.answered (body : List Byte) (r : State × Reply) : State := { r.1 with link := r.1.link.answer body r.2 }

/-- A request row takes the oldest WAITING request, if it is one of its own (R182, R183; log 2). -/
def Request.serve (q : Request) (s : State) : State :=
  match s.front? with
  | none => s
  | some body => if q.takes body then State.answered body (q.result body s) else s

/-- Accepted in both yard modes (Table 1-2). -/
def anyMode : YardMode → Bool
  | .unconfigured => true
  | .running => true

/-- Accepted in RUNNING (Table 1-2). -/
def inRunning : YardMode → Bool
  | .unconfigured => false
  | .running => true

/-- Accepted in UNCONFIGURED (Table 1-2). -/
def inUnconfigured : YardMode → Bool
  | .unconfigured => true
  | .running => false

/-- The kind codes of Table 11-6. -/
def requestKinds : List Nat :=
  [0x01, 0x02, 0x03, 0x04, 0x05, 0x06, 0x07, 0x08, 0x10, 0x11, 0x12, 0x13, 0x18, 0x19, 0x1A, 0x1B, 0x1C, 0x20, 0x21, 0x22,
   0x24] ++
  [0x28, 0x29, 0x2A, 0x2B, 0x2C, 0x2D, 0x2E, 0x2F, 0x30, 0x31, 0x32, 0x33, 0x34, 0x35, 0x38, 0x39, 0x3A, 0x3C, 0x3D, 0x3E,
   0x3F]

/-- A request of a kind Table 11-6 does not have (R183 stage 1). -/
def unknownKindRequest : Request :=
  { takes := fun b => !requestKinds.contains (byteAt b 0)
    length := fun _ => true
    mode := anyMode
    act := fun _ s => (s, .refuse .unknownKind) }

/-! ### The outbound transmitter -/

/-- Codes of place kinds (Table 11-5). -/
def placeKind : Option Place → Nat
  | none => 0
  | some (.lane _) => 1
  | some (.point (.island _)) => 2
  | some (.point (.wash _)) => 3

/-- Numbers of places (Table 11-5). -/
def placeNumber : Option Place → Nat
  | none => 0
  | some (.lane n) => n
  | some (.point (.island n)) => n
  | some (.point (.wash n)) => n

/-- A notice's body (Table 11-5). -/
def Notice.body (n : Notice) : List Byte :=
  u8 0x40 ++ u8 0 ++ u8 n.kind.num ++ u8 n.cls ++ u8 n.lost ++ u24 n.time ++ u16 n.fleet ++ u8 (placeKind n.place)
    ++ u8 (placeNumber n.place) ++ u8 n.code ++ u16 n.quantity

/-- The idle transmitter begins the oldest waiting reply (R185). -/
def Link.beginReply (l : Link) : Link :=
  match l.sending, l.awaitResetDone, l.replies with
  | none, false, r :: rest =>
    { l with
      sending := some (hostFrameOf r.body)
      replies := rest
      requests := if r.busy then l.requests else freeAnswered l.requests }
  | _, _, _ => l

/-- The idle transmitter takes the oldest notice, if no reply may go first (R185, R177). -/
def State.beginNotice (s : State) : State :=
  match s.link.sending, s.yard.notices.queue with
  | none, n :: rest =>
    if s.link.awaitResetDone || s.link.replies.isEmpty then
      { s with
        link := { s.link with sending := some (hostFrameOf n.body), awaitResetDone := false }
        yard := { s.yard with notices := { s.yard.notices with queue := rest } } }
    else s
  | _, _ => s

end Sys2Proof.Machine
end

