-- ==== Sys2Proof/Machine/Operands.lean ====
section
/-!
DEFINITION. The operand forms of requests (11.6): fields at fixed offsets after kind and tag, the lengths of every layout (log 16), the codes
of enumerations (log 18), and the step record of Table 11-11 in both directions.
-/
namespace Sys2Proof.Machine

/-! ### Kinds, lengths -/

/-- The body is of a kind. -/
def ofKind (k : Nat) (b : List Byte) : Bool := byteAt b 0 == k

/-- The body is of a kind, its first field (action, form or setting) selecting the kind's second row. -/
def ofKindSel (k v : Nat) (b : List Byte) : Bool := ofKind k b && decide (3 ≤ b.length) && byteAt b 2 == v

/-- The body is of a kind and does not select the kind's second row. -/
def ofKindElse (k v : Nat) (b : List Byte) : Bool := ofKind k b && !ofKindSel k v b

/-- A body of exactly so many bytes. -/
def exactly (n : Nat) (b : List Byte) : Bool := b.length == n

/-- A length that depends on the first field: `n0` for 0, `n1` for 1, either for any other value. -/
def byForm (n0 n1 : Nat) (b : List Byte) : Bool :=
  if 3 ≤ b.length then
    if byteAt b 2 = 0 then b.length == n0
    else if byteAt b 2 = 1 then b.length == n1
    else b.length == n0 || b.length == n1
  else false

/-- A list whose count byte stands at `at_`, of `size`-byte items, its count within limits (R183 stage 2). -/
def counted (at_ size low high : Nat) (b : List Byte) : Bool :=
  decide (at_ < b.length) && decide (low ≤ byteAt b at_) && decide (byteAt b at_ ≤ high)
    && b.length == at_ + 1 + size * byteAt b at_

/-- `n` items of `size` bytes from an offset. -/
def itemsAt (size : Nat) (b : List Byte) : Nat → Nat → List (List Byte)
  | 0, _ => []
  | n + 1, i => (b.drop i).take size :: itemsAt size b n (i + size)

/-- The items of a list whose count byte stands at an offset. -/
def listAt (size at_ : Nat) (b : List Byte) : List (List Byte) := itemsAt size b (byteAt b at_) (at_ + 1)

/-- No value stands twice. -/
def noRepeats : List Nat → Bool
  | [] => true
  | x :: rest => !rest.contains x && noRepeats rest

/-! ### Enumerations -/

/-- A flag field: 0 off, 1 on (11.6). -/
def flagOf : Nat → Option Bool
  | 0 => some false
  | 1 => some true
  | _ => none

/-- THROUGH 0, BLIND 1. -/
def laneKindOf : Nat → Option LaneKind
  | 0 => some .through
  | 1 => some .blind
  | _ => none

/-- DIESEL 0, GAS 1, BOTH 2. -/
def offersOf : Nat → Option Offers
  | 0 => some .diesel
  | 1 => some .gas
  | 2 => some .both
  | _ => none

/-- GATE 1, LOOP 2, ISLAND 3, WASH 4 (Table 8-6). -/
def stationKindOf : Nat → Option StationKind
  | 1 => some .gate
  | 2 => some .loop
  | 3 => some .island
  | 4 => some .wash
  | _ => none

/-- DIESEL 0, GAS 1 (Table 11-7). -/
def fuelKindOf : Nat → Option FuelKind
  | 0 => some .diesel
  | 1 => some .gas
  | _ => none

/-- STANDARD 0, ARTICULATED 1 (Table 11-7). -/
def busLengthOf : Nat → Option BusLength
  | 0 => some .standard
  | 1 => some .articulated
  | _ => none

/-- TEST 1, READ 2, WRITE 3 (Table 11-8). -/
def askOpOf : Nat → Option AskOp
  | 1 => some .test
  | 2 => some .read
  | 3 => some .write
  | _ => none

/-- A service point field: kind 2 island or 3 wash lane, its number in its kind's range (11.6, R74). -/
def pointOf (kind number : Nat) : Option PointId :=
  if kind = 2 ∧ 1 ≤ number ∧ number ≤ 4 then some (.island number)
  else if kind = 3 ∧ 1 ≤ number ∧ number ≤ 2 then some (.wash number)
  else none

/-- Fleet numbers are 1-9999. -/
def fleetOk (f : Nat) : Bool := decide (1 ≤ f) && decide (f ≤ 9999)

/-- Lanes are 1-24. -/
def laneOk (n : Nat) : Bool := decide (1 ≤ n) && decide (n ≤ 24)

/-- Station addresses are 1-63. -/
def addressOk (a : Nat) : Bool := decide (1 ≤ a) && decide (a ≤ 63)

/-- A home plan field: an address 0-511 or absent (R16); none when out of range. -/
def homePlanOf (v : Nat) : Option (Option Nat) :=
  if v = 65535 then some none else if v < Config.planSlots then some (some v) else none

/-! ### Step records (Table 11-11) -/

/-- TEST conditions; the minute is 0 but for SLOT_BEFORE (R34). -/
def testCondOf (code minute : Nat) : Option TestCond :=
  if code = 5 then (if minute ≤ 1439 then some (.slotBefore minute) else none)
  else if minute ≠ 0 then none
  else if code = 1 then some .fuelWanted
  else if code = 2 then some .washWanted
  else if code = 3 then some .frost
  else if code = 4 then some .hasSlot
  else if code = 6 then some .residue
  else none

/-- A record read on receipt: EMPTY, a step, or out of range (R34). -/
def stepOf (r : List Byte) : Option (Option Step) :=
  let a := byteAt r 1
  let target := wordAt r 2
  let toTarget (s : Step) : Option (Option Step) := if target < Config.planSlots then some (some s) else none
  match byteAt r 0 with
  | 0 => some none
  | 1 => some (some .fuel)
  | 2 => if 1 ≤ a ∧ a ≤ 4 then some (some (.wash a)) else none
  | 3 => if a = 0 then some (some (.park none)) else if a ≤ 24 then some (some (.park (some a))) else none
  | 4 => if 1 ≤ a ∧ a ≤ 120 then some (some (.hold a)) else none
  | 5 => if a ≤ 15 then some (some (.rep a)) else none
  | 6 =>
    match testCondOf a (wordAt r 4) with
    | some cond => toTarget (.test cond target)
    | none => none
  | 7 => toTarget (.jump target)
  | 8 => toTarget (.call target)
  | 9 => some (some .ret)
  | 10 => some (some (.note a))
  | 11 => if a = 0 then some (some (.finish true)) else if a = 1 then some (some (.finish false)) else none
  | _ => none

/-- TEST condition codes and minutes. -/
def TestCond.bytes : TestCond → Nat × Nat
  | .fuelWanted => (1, 0) | .washWanted => (2, 0) | .frost => (3, 0) | .hasSlot => (4, 0)
  | .slotBefore m => (5, m) | .residue => (6, 0)

/-- A step record's six bytes. -/
def stepRecord (kind a target minute : Nat) : List Byte := u8 kind ++ u8 a ++ u16 target ++ u16 minute

/-- A slot's content as a record (R36). -/
def slotBytes : Option Step → List Byte
  | none => stepRecord 0 0 0 0
  | some .fuel => stepRecord 1 0 0 0
  | some (.wash program) => stepRecord 2 program 0 0
  | some (.park lane) => stepRecord 3 (lane.getD 0) 0 0
  | some (.hold m) => stepRecord 4 m 0 0
  | some (.rep c) => stepRecord 5 c 0 0
  | some (.test cond target) => stepRecord 6 cond.bytes.1 target cond.bytes.2
  | some (.jump target) => stepRecord 7 0 target 0
  | some (.call target) => stepRecord 8 0 target 0
  | some .ret => stepRecord 9 0 0 0
  | some (.note code) => stepRecord 10 code 0 0
  | some (.finish notify) => stepRecord 11 (if notify then 0 else 1) 0 0

/-- Every record of a list read; none when one is out of range. -/
def stepsOf : List (List Byte) → Option (List (Option Step))
  | [] => some []
  | r :: rest =>
    match stepOf r, stepsOf rest with
    | some s, some ss => some (s :: ss)
    | _, _ => none

end Sys2Proof.Machine
end

