-- ==== Sys2Proof/Machine/Replies.lean ====
section
/-!
DEFINITION. The data of query replies (R12, R18, R19, R36, R38, R78, R120, R141, R158, R173, R178), in the widths of 11.6 (log 17).
-/
namespace Sys2Proof.Machine

/-- A list: a count byte, then its items (11.6). -/
def listBytes (items : List (List Byte)) : List Byte := u8 items.length ++ items.flatten

/-- Up to `n` items of a list from an index. -/
def slice {α : Type} (start n : Nat) (l : List α) : List α := (l.drop start).take n

/-- A service point field (11.6). -/
def pointBytes : PointId → List Byte
  | .island n => u8 2 ++ u8 n
  | .wash n => u8 3 ++ u8 n

/-- Codes of fuel kinds (Table 11-7). -/
def FuelKind.code : FuelKind → Nat
  | .diesel => 0 | .gas => 1

/-- Codes of lengths (Table 11-7). -/
def BusLength.code : BusLength → Nat
  | .standard => 0 | .articulated => 1

/-- Codes of offers; absent 255 as in POINT_DEFINE (11.6), the model's choice in a POINTS reply (log 29). -/
def offersCode : Option Offers → Nat
  | some .diesel => 0 | some .gas => 1 | some .both => 2 | none => 255

/-- Codes of lane kinds. -/
def LaneKind.code : LaneKind → Nat
  | .through => 0 | .blind => 1

/-- Codes of reservation kinds: those Table 6-4 gives PARKED, the model's reading of 11.6 (log 18). -/
def ReservationKind.code : ReservationKind → Nat
  | .park => 1 | .shunt => 2

/-- Codes of station states. -/
def StationState.code : StationState → Nat
  | .unknown => 0 | .alive => 1 | .lost => 2

/-- Codes of what holds the line (R158). -/
def holderCode : Option LineHolder → Nat
  | none => 0 | some .round => 1 | some .command => 2 | some .ask => 3

/-- Codes of the yard mode. -/
def YardMode.code : YardMode → Nat
  | .unconfigured => 0 | .running => 1

/-- RUNL (R1): lit in RUNNING, dark in UNCONFIGURED or while RSTN is low. -/
def State.runl (s : State) : Bool := s.mode == .running && !s.rstnLow

/-! ### STATUS_QUERY (Table 1-6) -/

/-- The thirteen parameters, in parameter-number order. -/
def Params.values (p : Params) : List Nat :=
  [p.callWait, p.entryWait, p.releaseLapse, p.pacingInterval, p.dueLead, p.swapWindow, p.priorityCutoff,
   if p.invertAllowed then 1 else 0, p.supervision, p.sightingReload, p.recoveryWait, p.urgentPeriod,
   p.routinePeriod]

/-- Island definitions. -/
def Layout.islandCount (l : Layout) : Nat := (l.points.filter (fun p => !p.id.isWash)).length

/-- Wash lane definitions. -/
def Layout.washCount (l : Layout) : Nat := (l.points.filter (fun p => p.id.isWash)).length

/-- STATUS_QUERY's reply data (Table 1-6). -/
def State.statusBytes (s : State) : List Byte :=
  u8 s.mode.code ++ u24 s.env.clock ++ u8 s.layout.lanes.length ++ u8 s.layout.islandCount
    ++ u8 s.layout.washCount ++ u8 s.layout.stations.length ++ u8 s.yard.fleet.length ++ u8 s.yard.poolUsed
    ++ uFlag s.yard.frost ++ uFlag s.yard.pullout ++ u8 s.yard.notices.queue.length ++ u8 s.yard.notices.lost
    ++ u16 s.link.frameErrors ++ (s.env.params.values.map u16).flatten

/-! ### BUS_QUERY (Table 11-7) -/

/-- The enqueue time and skip count of a bus's pool entry; 0 with no entry, the model's choice (log 29). -/
def turnBytes : Option PoolEntry → List Byte
  | some t => u24 t.time ++ u8 t.skip
  | none => u24 0 ++ u8 0

/-- The slot minute and state of a bus's departure entry. -/
def departureBytes : Option Departure → List Byte
  | some d => u16 d.slot ++ u8 d.state.code
  | none => u16 65535 ++ u8 255

/-- The bus report (Table 11-7). -/
def Yard.busReport (y : Yard) (b : Bus) : List Byte :=
  u16 b.fleet ++ u8 b.fuelKind.code ++ u8 b.length.code ++ u8 b.routeClass ++ u16Absent b.homePlan
    ++ u8 ((if b.fuelWanted then 1 else 0) + (if b.washWanted then 2 else 0)) ++ u8 b.position.code
    ++ u8 b.wait.code ++ u16Absent b.cursor ++ u8 ((b.fault.map FaultCause.code).getD 0) ++ u8 b.stack.length
    ++ u16Absent b.stack[0]? ++ u16Absent b.stack[1]? ++ u8 (b.repeatCount.getD 0)
    ++ u8 ((b.shuntMarker.map PlanWait.code).getD 255) ++ u8 b.age ++ u8 b.missedCalls ++ u8 b.residue
    ++ u16 b.fuelTaken ++ departureBytes (y.departure? b.fleet) ++ u8 (y.turnQueueCode b.fleet)
    ++ turnBytes (y.turn? b.fleet)

/-- Fleet numbers listed by a LIST query (R19). -/
def Yard.fleetFrom (y : Yard) (start : Nat) : List Nat := (y.fleet.map Bus.fleet).filter (fun f => decide (start ≤ f))

/-- BUS_QUERY LIST's reply data (R19). -/
def Yard.fleetList (y : Yard) (start : Nat) : List Byte :=
  u8 y.fleet.length ++ listBytes (((y.fleetFrom start).take 64).map u16)
    ++ uFlag (decide (64 < (y.fleetFrom start).length))

/-! ### Plans -/

/-- PLAN_READ's reply data (R36). -/
def PlanStore.listed (p : PlanStore) (start count : Nat) : List Byte :=
  listBytes ((List.range count).map (fun i => slotBytes (p.read (start + i))))

/-- PLAN_START's and PLAN_RESUME's reply data (R38, R52). -/
def Yard.planBytes (y : Yard) (f : Nat) : List Byte :=
  match y.bus? f with
  | some b => u8 b.wait.code ++ u16Absent b.cursor
  | none => []

/-! ### TURN_QUERY (R78) -/

/-- A request's bytes: fuel kind, or program and passes. -/
def TurnRequest.bytes : TurnRequest → List Byte
  | .fuel k => u8 k.code
  | .wash program passes => u8 program ++ u8 passes

/-- A status and its point. -/
def TurnStatus.bytes : TurnStatus → List Byte
  | .waiting => u8 0 ++ u16 0
  | .called p => u8 1 ++ pointBytes p
  | .serving p => u8 2 ++ pointBytes p

/-- A pool entry of a QUEUE reply. -/
def PoolEntry.bytes (t : PoolEntry) : List Byte :=
  u16 t.bus ++ u24 t.time ++ t.request.bytes ++ u8 t.skip ++ t.status.bytes

/-- The queue of a code. -/
def Yard.queueOf (y : Yard) (code : Nat) : List PoolEntry :=
  if code = 1 then y.fuelPriority else if code = 2 then y.fuelOrdinary else y.washQueue

/-- TURN_QUERY QUEUE's reply data. -/
def queueBytes (q : List PoolEntry) (start : Nat) : List Byte :=
  u8 q.length ++ listBytes ((slice start 12 q).map PoolEntry.bytes)

/-- Call or recovery time remaining. -/
def Point.remaining (q : Point) : Nat := (q.callTimer.or q.recoveryTimer).getD 0

/-- A point's night tally: fuel in 3 bytes, passes in 2. -/
def Point.tallyBytes (q : Point) : List Byte := if q.id.isWash then u16 q.tally else u24 q.tally

/-- A point record of a POINTS reply; an absent down cause is sent as 0, the model's choice (log 29). -/
def Point.bytes (q : Point) : List Byte :=
  pointBytes q.id ++ u8 (offersCode q.offers) ++ u8 q.state.code ++ u16 (q.bus.getD 0) ++ u16 q.remaining
    ++ u8 (if q.id.isWash then q.retries else q.faults) ++ uFlag q.closePending
    ++ u8 ((q.downCause.map DownCause.code).getD 0) ++ q.tallyBytes

/-- TURN_QUERY POINTS' reply data. -/
def Yard.pointsBytes (y : Yard) : List Byte := listBytes (y.points.map Point.bytes)

/-! ### LANE_QUERY (R120) -/

/-- A sign content, or none (mode 255). -/
def signBytes : Option SignContent → List Byte
  | some c => c.bytes
  | none => u8 255 ++ u16 0 ++ u16 0 ++ u16 0 ++ u16 0

/-- An occupant: fleet, length, key. -/
def Yard.occupantBytes (y : Yard) (f : Nat) : List Byte :=
  u16 f ++ u8 (((y.bus? f).map (fun b => b.length.code)).getD 0) ++ u16 (y.key f)

/-- A reservation: fleet, places, kind, entry time remaining, lapses. -/
def Reservation.bytes (r : Reservation) : List Byte :=
  u16 r.bus ++ u8 r.places ++ u8 r.kind.code ++ u16 r.entryTimer.remaining ++ u8 r.lapses

/-- A release field: fleet and reason, 0 where absent. -/
def releaseBytes : Option (Nat × ReleaseReason) → List Byte
  | some (f, r) => u16 f ++ u8 r.code
  | none => u16 0 ++ u8 0

/-- The lane's unsent command: 0 none, 1 SIGN, 2 CONFIRM_FRONT (Table 6-1). -/
def unsentCode : Option LineCommand → Nat
  | none => 0
  | some c =>
    match c.order with
    | .sign _ => 1
    | .confirmFront | .call _ | .clearCall | .resetPoint | .startPass _ => 2

/-- The free places in two's complement (11.6); below -128 they wrap, the model's choice (log 35). -/
def freeByte (i : Int) : List Byte := [BitVec.ofInt 8 i]

/-- LANE_QUERY LANE's reply data: the fields of Table 6-1 in order, then the free places. The occupants of an overfull lane are sent whole,
also where the body then passes the 240 bytes of a frame: the model's choice (log 35). -/
def Yard.laneBytes (y : Yard) (l : Lane) : List Byte :=
  u8 l.number ++ u8 l.kind.code ++ u8 l.capacity ++ uFlag l.gas ++ u8 l.station ++ uFlag l.closed ++ u8 l.hold
    ++ uFlag l.mismatch ++ uFlag l.overfull ++ uFlag l.dark ++ listBytes (l.occupants.map y.occupantBytes)
    ++ listBytes (l.reservations.map Reservation.bytes) ++ releaseBytes l.release ++ u16 l.forceMask.toNat
    ++ u16 l.forceValue.toNat ++ u8 l.inversions ++ l.sign.bytes ++ signBytes l.lastSign
    ++ u8 (unsentCode (y.unsent? (.lane l.number))) ++ uFlag l.signPending ++ uFlag l.confirmPending
    ++ freeByte (y.freePlaces l)

/-- A berth wait entry: fleet, lane (0 AUTO), lapses. -/
def BerthWait.bytes (w : BerthWait) : List Byte := u16 w.bus ++ u8 (w.lane.getD 0) ++ u8 w.lapses

/-- LANE_QUERY WAITS' reply data. -/
def Yard.waitsBytes (y : Yard) (start : Nat) : List Byte :=
  u8 y.waits.length ++ listBytes ((slice start 16 y.waits).map BerthWait.bytes)

/-! ### DEPART_QUERY (R141) -/

/-- A departure entry. -/
def Yard.departBytes (y : Yard) (d : Departure) : List Byte :=
  u16 d.slot ++ u16 d.bus ++ u8 d.state.code ++ uFlag d.noticeSent ++ u16 d.lapse.remaining
    ++ u8 (((y.bus? d.bus).map (fun b => b.position.code)).getD 0)

/-- DEPART_QUERY's reply data. -/
def Yard.departList (y : Yard) (start : Nat) : List Byte :=
  uFlag y.pullout ++ u16 y.pacing.remaining ++ u8 y.departures.length
    ++ u8 ((y.departures.findIdx? (fun d => d.state.unreleased)).getD 255)
    ++ listBytes ((slice start 16 y.departures).map y.departBytes)

/-! ### STATION_QUERY (R158) -/

/-- A turn bit: 0, 1, or 2 for none. -/
def turnBitCode : Option Bool → Nat
  | some false => 0
  | some true => 1
  | none => 2

/-- A station record (Table 8-4). -/
def Yard.stationBytes (y : Yard) (t : Station) : List Byte :=
  u8 t.address ++ u8 t.kind.code ++ u8 ((t.served.map Place.code).getD 0) ++ u8 t.state.code ++ u8 t.failures
    ++ u8 (turnBitCode t.turnBit) ++ u8 (y.marker t.address)

/-- A station definition shown in UNCONFIGURED (R158). -/
def StationDef.bytes (t : StationDef) : List Byte :=
  u8 t.address ++ u8 t.kind.code ++ u8 0 ++ u8 0 ++ u8 0 ++ u8 2 ++ u8 0

/-- The station entries of a STATION_QUERY reply. -/
def State.stationEntries (s : State) (start : Nat) : List (List Byte) :=
  match s.mode with
  | .running => ((s.yard.stations.filter (fun t => decide (start ≤ t.address))).take 31).map s.yard.stationBytes
  | .unconfigured =>
    ((s.layout.stations.filter (fun t => decide (start ≤ t.address))).take 31).map StationDef.bytes

/-- STATION_QUERY's reply data. -/
def State.stationList (s : State) (start : Nat) : List Byte :=
  u8 s.yard.cmdQueue.length ++ u8 s.line.asks.length ++ u8 (holderCode s.line.holder)
    ++ listBytes (s.stationEntries start)

/-! ### Notices -/

/-- The three enable flags. -/
def Notices.enableBytes (u : Notices) : List Byte := uFlag u.enable1 ++ uFlag u.enable2 ++ uFlag u.enable3

/-- NOTICE_MAP's reply data (R173): always 42 classes, sent with no count byte before them, the model's choice (log 29). -/
def Notices.mapBytes (u : Notices) : List Byte := (u.classes.map u8).flatten ++ u.enableBytes

/-- NOTICE_TALLY's reply data (R178): always 42 tallies, sent with no count byte before them, the model's choice (log 29). -/
def Notices.tallyBytes (u : Notices) : List Byte := (u.tallies.map u16).flatten

end Sys2Proof.Machine
end

