-- ==== Sys2Proof/Machine/Layouts.lean ====
section
/-!
DEFINITION. The layout definitions (R3-R5), the commit's checks (R6) and its effects (R7).
-/
namespace Sys2Proof.Machine

/-- A definition written under its key, replacing one already held; ascending by key. -/
def upsert {α : Type} (key : α → Nat) (x : α) : List α → List α
  | [] => [x]
  | y :: rest =>
    if key x < key y then x :: y :: rest
    else if key x = key y then x :: rest
    else y :: upsert key x rest

/-- Order of points: islands, then wash lanes, each ascending. -/
def pointKey : PointId → Nat
  | .island n => n
  | .wash n => 100 + n

/-! ### LANE_DEFINE (R3) -/

/-- The lane definition a body carries, if every field is in range. -/
def laneDefOf (b : List Byte) : Option LaneDef :=
  match laneKindOf (byteAt b 4), flagOf (byteAt b 6) with
  | some kind, some gas =>
    if laneOk (byteAt b 3) ∧ 2 ≤ byteAt b 5 ∧ byteAt b 5 ≤ 12 ∧ addressOk (byteAt b 7) then
      some { number := byteAt b 3, kind, capacity := byteAt b 5, gas, station := byteAt b 7 }
    else none
  | _, _ => none

/-- DEFINE; an action other than DEFINE is answered BAD_VALUE here. -/
def defineLane (b : List Byte) (s : State) : State × Reply :=
  if byteAt b 2 ≠ 0 then (s, .refuse .badValue)
  else
    match laneDefOf b with
    | some d => ({ s with layout := { s.layout with lanes := upsert LaneDef.number d s.layout.lanes } }, .ok [])
    | none => (s, .refuse .badValue)

/-- REMOVE. -/
def removeLane (b : List Byte) (s : State) : State × Reply :=
  let n := byteAt b 3
  if laneOk n = false then (s, .refuse .badValue)
  else if s.layout.lanes.any (fun d => d.number == n) then
    ({ s with layout := { s.layout with lanes := s.layout.lanes.filter (fun d => d.number != n) } }, .ok [])
  else (s, .refuse .notFound)

/-! ### POINT_DEFINE (R4) -/

/-- The point definition a body carries, if every field is in range. -/
def pointDefOf (b : List Byte) : Option PointDef :=
  match pointOf (byteAt b 3) (byteAt b 4) with
  | none => none
  | some id =>
    if addressOk (byteAt b 6) = false then none
    else
      match id with
      | .island _ =>
        (offersOf (byteAt b 5)).map (fun o => { id, offers := some o, station := byteAt b 6 })
      | .wash _ => if byteAt b 5 = 255 then some { id, offers := none, station := byteAt b 6 } else none

/-- DEFINE; an action other than DEFINE is answered BAD_VALUE here. -/
def definePoint (b : List Byte) (s : State) : State × Reply :=
  if byteAt b 2 ≠ 0 then (s, .refuse .badValue)
  else
    match pointDefOf b with
    | some d =>
      ({ s with layout := { s.layout with points := upsert (fun d => pointKey d.id) d s.layout.points } }, .ok [])
    | none => (s, .refuse .badValue)

/-- REMOVE. -/
def removePoint (b : List Byte) (s : State) : State × Reply :=
  match pointOf (byteAt b 3) (byteAt b 4) with
  | none => (s, .refuse .badValue)
  | some id =>
    if s.layout.points.any (fun d => d.id == id) then
      ({ s with layout := { s.layout with points := s.layout.points.filter (fun d => d.id != id) } }, .ok [])
    else (s, .refuse .notFound)

/-! ### STATION_DEFINE (R5) -/

/-- Stations of each kind that may be defined (R5). -/
def stationLimit : StationKind → Nat
  | .gate => 1 | .loop => 24 | .island => 4 | .wash => 2

/-- DEFINE; an action other than DEFINE is answered BAD_VALUE here. -/
def defineStation (b : List Byte) (s : State) : State × Reply :=
  let a := byteAt b 3
  if byteAt b 2 ≠ 0 ∨ addressOk a = false then (s, .refuse .badValue)
  else
    match stationKindOf (byteAt b 4) with
    | none => (s, .refuse .badValue)
    | some kind =>
      let after := upsert StationDef.address { address := a, kind } s.layout.stations
      if stationLimit kind < (after.filter (fun d => d.kind == kind)).length then (s, .refuse .noRoom)
      else ({ s with layout := { s.layout with stations := after } }, .ok [])

/-- REMOVE. -/
def removeStation (b : List Byte) (s : State) : State × Reply :=
  let a := byteAt b 3
  if addressOk a = false then (s, .refuse .badValue)
  else if s.layout.stations.any (fun d => d.address == a) then
    ({ s with layout := { s.layout with stations := s.layout.stations.filter (fun d => d.address != a) } }, .ok [])
  else (s, .refuse .notFound)

/-! ### The commit's checks (R6) -/

/-- What a lane or point asks of its station: the object, its station address and the kind that matches it. -/
structure Demand where
  object : Place
  station : Nat
  kind : StationKind
deriving DecidableEq, Repr

/-- The defined objects in the order a check examines them: lanes, islands, wash lanes. -/
def Layout.demands (l : Layout) : List Demand :=
  l.lanes.map (fun d => { object := .lane d.number, station := d.station, kind := .loop })
    ++ l.points.map (fun d =>
        { object := .point d.id, station := d.station, kind := if d.id.isWash then .wash else .island })

/-- A failed check (Table 1-4): its code, the object's kind (0 none, 1 lane, 2 island, 3 wash lane, 4 station) and number. -/
structure CommitFailure where
  code : Nat
  kind : Nat
  number : Nat
deriving DecidableEq, Repr

/-- A failure at a lane or point. -/
def failureAt (code : Nat) (d : Demand) : CommitFailure :=
  { code, kind := placeKind (some d.object), number := placeNumber (some d.object) }

/-- The definition of an address. -/
def Layout.station? (l : Layout) (a : Nat) : Option StationDef := l.stations.find? (fun t => t.address == a)

/-- Lanes and points that name a station. -/
def Layout.users (l : Layout) (a : Nat) : Nat := (l.demands.filter (fun d => d.station == a)).length

/-- The first check that fails, with the first object that fails it (R6). -/
def Layout.commitFailure (l : Layout) : Option CommitFailure :=
  if (l.stations.filter (fun t => t.kind == .gate)).length ≠ 1 then some { code := 1, kind := 0, number := 0 }
  else
    match l.demands.find? (fun d => (l.station? d.station).isNone) with
    | some d => some (failureAt 2 d)
    | none =>
      match l.demands.find? (fun d => (l.station? d.station).map StationDef.kind != some d.kind) with
      | some d => some (failureAt 3 d)
      | none =>
        match l.stations.find? (fun t => decide (2 ≤ l.users t.address)) with
        | some t => some { code := 4, kind := 4, number := t.address }
        | none =>
          match l.stations.find? (fun t => t.kind != .gate && l.users t.address == 0) with
          | some t => some { code := 5, kind := 4, number := t.address }
          | none =>
            if Config.yardPlaces < (l.lanes.map LaneDef.capacity).sum then some { code := 6, kind := 0, number := 0 }
            else none

/-- The refusal of a commit: code, object kind and number (R184). -/
def CommitFailure.bytes (f : CommitFailure) : List Byte := u8 f.code ++ u8 f.kind ++ u8 f.number

/-! ### The commit's effects (R7) -/

/-- OPEN, no expected buses, no release. -/
def SignContent.blank : SignContent := { mode := .open, expected1 := 0, expected2 := 0, expected3 := 0, release := 0 }

/-- A lane record built from its definition (Table 6-1). -/
def LaneDef.build (d : LaneDef) : Lane :=
  { number := d.number, kind := d.kind, capacity := d.capacity, gas := d.gas, station := d.station, closed := false,
    hold := 0, mismatch := false, overfull := false, dark := false, occupants := [], reservations := [],
    release := none, forceMask := 0, forceValue := 0, inversions := 0, sign := .blank, lastSign := none,
    signPending := false, confirmPending := false }

/-- An island or wash lane record built from its definition (Tables 4-3, 5-2). -/
def PointDef.build (d : PointDef) : Point :=
  { id := d.id, offers := d.offers, station := d.station, state := .free, bus := none, callTimer := none,
    recoveryTimer := none, faults := 0, closePending := false, downCause := none, deferred := none, tally := 0,
    program := none, passesLeft := 0, retries := 0, selection := false }

/-- The object that names a station. -/
def Layout.served (l : Layout) (a : Nat) : Option Place :=
  (l.demands.find? (fun d => d.station == a)).map Demand.object

/-- A station record built from its definition (Table 8-4). -/
def StationDef.build (l : Layout) (d : StationDef) : Station :=
  { address := d.address, kind := d.kind, served := if d.kind = .gate then none else l.served d.address,
    state := .unknown, failures := 0, turnBit := none }

/-- The first commands of the yard: SIGN for each lane, CLEAR_CALL for each point. -/
def Layout.firstCommands (l : Layout) : List LineCommand :=
  l.lanes.map (fun d => { owner := .lane d.number, station := d.station, order := .sign .blank })
    ++ l.points.map (fun d => { owner := .point d.id, station := d.station, order := .clearCall })

/-- The yard's records built from the definitions. -/
def Yard.built (l : Layout) (y : Yard) : Yard :=
  { y with
    lanes := l.lanes.map LaneDef.build
    points := l.points.map PointDef.build
    stations := l.stations.map (StationDef.build l)
    cmdQueue := l.firstCommands }

/-- The round engine at commit: both classes due, both timers started (R160). -/
def Rounds.started (p : Params) (r : Rounds) : Rounds :=
  { r with
    urgentDue := true, routineDue := true
    urgentTimer := some p.urgentPeriod, routineTimer := some (p.routinePeriod * 1000) }

/-- A commit that passes every check (R7). -/
def State.intoService (s : State) : State :=
  { s with
    mode := .running
    yard := s.yard.built s.layout
    rounds := s.rounds.started s.env.params }

/-- LAYOUT_COMMIT (R6, R7). -/
def commitLayout (_b : List Byte) (s : State) : State × Reply :=
  match s.layout.commitFailure with
  | some f => (s, { result := .wrongState, data := f.bytes })
  | none => (s.intoService, .ok [])

end Sys2Proof.Machine
end

