-- ==== Sys2Proof/Machine/FleetCommands.lean ====
section
/-!
DEFINITION. Meanings of the requests of Chapter 2 (R16-R21).
-/
namespace Sys2Proof.Machine

/-- A yard request's action: a reply alone. -/
def replyOnly (r : Reply) (s : State) : State × Reply := (s, r)

/-- A yard request's action: the yard changed, OK. -/
def State.done (s : State) (y : Yard) : State × Reply := ({ s with yard := y }, .ok [])

/-! ### BUS_ENROL (R16) -/

/-- A record with the enrolment values of Table 2-1. -/
def Bus.enrolled (fleet : Nat) (fuelKind : FuelKind) (length : BusLength) (routeClass : Nat) (homePlan : Option Nat) :
    Bus :=
  { fleet, fuelKind, length, routeClass, homePlan, fuelWanted := false, washWanted := false, position := .outside,
    wait := .noPlan, cursor := none, stack := [], repeatCount := none, fault := none, shuntMarker := none, age := 0,
    missedCalls := 0, residue := 0, fuelTaken := 0, holdTimer := none }

/-- The record a BUS_ENROL body asks for, if every field is in range. -/
def enrolOf (b : List Byte) : Option Bus :=
  match fuelKindOf (byteAt b 4), busLengthOf (byteAt b 5), homePlanOf (wordAt b 7) with
  | some k, some l, some h =>
    if fleetOk (wordAt b 2) ∧ byteAt b 6 ≤ 15 then some (Bus.enrolled (wordAt b 2) k l (byteAt b 6) h) else none
  | _, _, _ => none

/-- BUS_ENROL's action. -/
def enrolBus (b : List Byte) (s : State) : State × Reply :=
  match enrolOf b with
  | none => replyOnly (.refuse .badValue) s
  | some bus =>
    if (s.yard.bus? bus.fleet).isSome then replyOnly (.refuse .exists_) s
    else if Config.busRecords ≤ s.yard.fleet.length then replyOnly (.refuse .noRoom) s
    else s.done { s.yard with fleet := upsert Bus.fleet bus s.yard.fleet }

/-- BUS_ENROL's row. -/
def busEnrolRequest : Request := { takes := ofKind 0x10, length := exactly 9, mode := anyMode, act := enrolBus }

/-- BUS_ENROL (R16). -/
def execBusEnrol (s : State) : Host.Outcome State Fault Refusal := .next (busEnrolRequest.serve s)

/-! ### BUS_SET (R17) -/

/-- A change of a BUS_SET, in the order R17 lists the fields. -/
inductive BusChange where
  | fuelWanted (b : Bool)
  | washWanted (b : Bool)
  | homePlan (p : Option Nat)
  | routeClass (n : Nat)
  | fuelKind (k : FuelKind)
  | length (l : BusLength)
deriving DecidableEq, Repr

/-- A change read from its field code and value. -/
def changeOf (i : List Byte) : Option BusChange :=
  let v := wordAt i 1
  match byteAt i 0 with
  | 0 => (flagOf v).map BusChange.fuelWanted
  | 1 => (flagOf v).map BusChange.washWanted
  | 2 => (homePlanOf v).map BusChange.homePlan
  | 3 => if v ≤ 15 then some (.routeClass v) else none
  | 4 => (fuelKindOf v).map BusChange.fuelKind
  | 5 => (busLengthOf v).map BusChange.length
  | _ => none

/-- Every change of a list read; none when one is out of range. -/
def changesOf : List (List Byte) → Option (List BusChange)
  | [] => some []
  | i :: rest =>
    match changeOf i, changesOf rest with
    | some c, some cs => some (c :: cs)
    | _, _ => none

/-- The change is applied. -/
def Bus.apply (b : Bus) : BusChange → Bus
  | .fuelWanted v => { b with fuelWanted := v }
  | .washWanted v => { b with washWanted := v }
  | .homePlan p => { b with homePlan := p }
  | .routeClass n => { b with routeClass := n }
  | .fuelKind k => { b with fuelKind := k }
  | .length l => { b with length := l }

/-- The change names fuel kind or length. -/
def BusChange.ofBuild : BusChange → Bool
  | .fuelKind _ | .length _ => true
  | .fuelWanted _ | .washWanted _ | .homePlan _ | .routeClass _ => false

/-- A change of fuel kind or length is allowed (R17). -/
def Bus.rebuildable (b : Bus) : Bool := (b.position == .outside || b.position == .loose) && b.wait.startable

/-- BUS_SET's action. -/
def setBusFields (b : List Byte) (s : State) : State × Reply :=
  let f := wordAt b 2
  let items := listAt 3 4 b
  match changesOf items with
  | none => replyOnly (.refuse .badValue) s
  | some changes =>
    if fleetOk f = false ∨ noRepeats (items.map (fun i => byteAt i 0)) = false then
      replyOnly (.refuse .badValue) s
    else
      match s.yard.bus? f with
      | none => replyOnly (.refuse .notFound) s
      | some bus =>
        if changes.any BusChange.ofBuild && !bus.rebuildable then replyOnly (.refuse .wrongState) s
        else s.done (s.yard.setBus f (fun bus => changes.foldl Bus.apply bus))

/-- BUS_SET's row. -/
def busSetRequest : Request :=
  { takes := ofKind 0x11, length := counted 4 3 1 6, mode := anyMode, act := setBusFields }

/-- BUS_SET (R17). -/
def execBusSet (s : State) : Host.Outcome State Fault Refusal := .next (busSetRequest.serve s)

/-! ### BUS_QUERY (R18, R19) -/

/-- BUS_QUERY RECORD's action; a form other than RECORD or LIST is answered BAD_VALUE here (log 23). -/
def queryBus (b : List Byte) (s : State) : State × Reply :=
  let f := wordAt b 3
  if byteAt b 2 ≠ 0 ∨ fleetOk f = false then replyOnly (.refuse .badValue) s
  else
    match s.yard.bus? f with
    | none => replyOnly (.refuse .notFound) s
    | some bus => replyOnly (.ok (s.yard.busReport bus)) s

/-- BUS_QUERY RECORD's row. -/
def busQueryRecordRequest : Request :=
  { takes := ofKindElse 0x12 1, length := exactly 5, mode := anyMode, act := queryBus }

/-- BUS_QUERY_RECORD (R18). -/
def execBusQueryRecord (s : State) : Host.Outcome State Fault Refusal := .next (busQueryRecordRequest.serve s)

/-- BUS_QUERY LIST's action. -/
def listBuses (b : List Byte) (s : State) : State × Reply :=
  if fleetOk (wordAt b 3) then replyOnly (.ok (s.yard.fleetList (wordAt b 3))) s
  else replyOnly (.refuse .badValue) s

/-- BUS_QUERY LIST's row. -/
def busQueryListRequest : Request :=
  { takes := ofKindSel 0x12 1, length := exactly 5, mode := anyMode, act := listBuses }

/-- BUS_QUERY_LIST (R19). -/
def execBusQueryList (s : State) : Host.Outcome State Fault Refusal := .next (busQueryListRequest.serve s)

/-! ### BUS_WITHDRAW (R20, R21) -/

/-- The bus may be withdrawn (R20 checks 3 and 4). -/
def Bus.withdrawable (b : Bus) : Bool := (b.position == .outside || b.position == .loose) && b.wait != .serving

/-- BUS_WITHDRAW's action. -/
def withdrawBus (b : List Byte) (s : State) : State × Reply :=
  let f := wordAt b 2
  if fleetOk f = false then replyOnly (.refuse .badValue) s
  else
    match s.yard.bus? f with
    | none => replyOnly (.refuse .notFound) s
    | some bus =>
      if bus.withdrawable then s.done (s.yard.tearDown s.env bus) else replyOnly (.refuse .wrongState) s

/-- BUS_WITHDRAW's row. -/
def busWithdrawRequest : Request := { takes := ofKind 0x13, length := exactly 4, mode := anyMode, act := withdrawBus }

/-- BUS_WITHDRAW (R20, R21). -/
def execBusWithdraw (s : State) : Host.Outcome State Fault Refusal := .next (busWithdrawRequest.serve s)

end Sys2Proof.Machine
end

