-- ==== Sys2Proof/Machine/DepartureCommands.lean ====
section
/-!
DEFINITION. Meanings of the requests of Chapter 7 (R124-R127, R141).
-/
namespace Sys2Proof.Machine

/-- Slot minutes are 0-1439. -/
def slotOk (m : Nat) : Bool := decide (m ≤ 1439)

/-- SLOT_ADD's action (R124). -/
def addSlotOf (b : List Byte) (s : State) : State × Reply :=
  let f := wordAt b 2
  if fleetOk f = false ∨ slotOk (wordAt b 4) = false then replyOnly (.refuse .badValue) s
  else if (s.yard.bus? f).isNone then replyOnly (.refuse .notFound) s
  else if (s.yard.departure? f).isSome then replyOnly (.refuse .exists_) s
  else s.done (s.yard.addSlot s.env f (wordAt b 4))

/-- SLOT_ADD's row. -/
def slotAddRequest : Request := { takes := ofKind 0x30, length := exactly 6, mode := inRunning, act := addSlotOf }

/-- SLOT_ADD (R124). -/
def execSlotAdd (s : State) : Host.Outcome State Fault Refusal := .next (slotAddRequest.serve s)

/-- SLOT_REMOVE's action (R125). -/
def removeSlotOf (b : List Byte) (s : State) : State × Reply :=
  let f := wordAt b 2
  if fleetOk f = false then replyOnly (.refuse .badValue) s
  else
    match s.yard.bus? f, s.yard.departure? f with
    | some _, some d =>
      if d.state.unreleased then s.done (s.yard.removeSlot s.env f) else replyOnly (.refuse .wrongState) s
    | _, _ => replyOnly (.refuse .notFound) s

/-- SLOT_REMOVE's row. -/
def slotRemoveRequest : Request :=
  { takes := ofKind 0x31, length := exactly 4, mode := inRunning, act := removeSlotOf }

/-- SLOT_REMOVE (R125). -/
def execSlotRemove (s : State) : Host.Outcome State Fault Refusal := .next (slotRemoveRequest.serve s)

/-- SLOT_MOVE's action (R126). -/
def moveSlotOf (b : List Byte) (s : State) : State × Reply :=
  let f := wordAt b 2
  if fleetOk f = false ∨ slotOk (wordAt b 4) = false then replyOnly (.refuse .badValue) s
  else
    match s.yard.bus? f, s.yard.departure? f with
    | some _, some d =>
      if d.state.unreleased then s.done (s.yard.moveSlot s.env f (wordAt b 4))
      else replyOnly (.refuse .wrongState) s
    | _, _ => replyOnly (.refuse .notFound) s

/-- SLOT_MOVE's row. -/
def slotMoveRequest : Request := { takes := ofKind 0x32, length := exactly 6, mode := inRunning, act := moveSlotOf }

/-- SLOT_MOVE (R126). -/
def execSlotMove (s : State) : Host.Outcome State Fault Refusal := .next (slotMoveRequest.serve s)

/-- PULLOUT_START's action (R127). -/
def startPullout (_b : List Byte) (s : State) : State × Reply :=
  if s.yard.pullout then replyOnly (.refuse .wrongState) s
  else s.done { s.yard with pullout := true, pacing := some s.env.params.pacingInterval }

/-- PULLOUT_START's row. -/
def pulloutStartRequest : Request :=
  { takes := ofKind 0x33, length := exactly 2, mode := inRunning, act := startPullout }

/-- PULLOUT_START (R127). -/
def execPulloutStart (s : State) : Host.Outcome State Fault Refusal := .next (pulloutStartRequest.serve s)

/-- PULLOUT_STOP's action (R127). -/
def stopPullout (_b : List Byte) (s : State) : State × Reply :=
  if s.yard.pullout then s.done { s.yard with pullout := false, pacing := none }
  else replyOnly (.refuse .wrongState) s

/-- PULLOUT_STOP's row. -/
def pulloutStopRequest : Request :=
  { takes := ofKind 0x34, length := exactly 2, mode := inRunning, act := stopPullout }

/-- PULLOUT_STOP (R127). -/
def execPulloutStop (s : State) : Host.Outcome State Fault Refusal := .next (pulloutStopRequest.serve s)

/-- DEPART_QUERY's action (R141). -/
def queryDepartures (b : List Byte) (s : State) : State × Reply :=
  if byteAt b 2 ≤ 191 then replyOnly (.ok (s.yard.departList (byteAt b 2))) s else replyOnly (.refuse .badValue) s

/-- DEPART_QUERY's row. -/
def departQueryRequest : Request :=
  { takes := ofKind 0x35, length := exactly 3, mode := inRunning, act := queryDepartures }

/-- DEPART_QUERY (R141). -/
def execDepartQuery (s : State) : Host.Outcome State Fault Refusal := .next (departQueryRequest.serve s)

end Sys2Proof.Machine
end

