-- ==== Sys2Proof/Machine/LaneCommands.lean ====
section
/-!
DEFINITION. Meanings of the requests of Chapter 6 (R111, R114, R115, R118-R120).
-/
namespace Sys2Proof.Machine

/-- A request that names a lane at an offset: BAD_VALUE outside 1-24, NOT_FOUND when not in the layout (R114). -/
def onLane (at_ : Nat) (act : Lane → List Byte → State → State × Reply) (b : List Byte) (s : State) :
    State × Reply :=
  if laneOk (byteAt b at_) = false then replyOnly (.refuse .badValue) s
  else
    match s.yard.lane? (byteAt b at_) with
    | none => replyOnly (.refuse .notFound) s
    | some l => act l b s

/-! ### LANE_QUERY (R120) -/

/-- LANE_QUERY LANE's action; a form other than LANE or WAITS is answered BAD_VALUE here (log 23). -/
def queryLane (b : List Byte) (s : State) : State × Reply :=
  if byteAt b 2 ≠ 0 then replyOnly (.refuse .badValue) s
  else onLane 3 (fun l _ s => replyOnly (.ok (s.yard.laneBytes l)) s) b s

/-- LANE_QUERY LANE's row. -/
def laneQueryLaneRequest : Request :=
  { takes := ofKindElse 0x28 1, length := exactly 4, mode := inRunning, act := queryLane }

/-- LANE_QUERY_LANE (R120). -/
def execLaneQueryLane (s : State) : Host.Outcome State Fault Refusal := .next (laneQueryLaneRequest.serve s)

/-- LANE_QUERY WAITS' action. -/
def queryWaits (b : List Byte) (s : State) : State × Reply :=
  if byteAt b 3 ≤ 191 then replyOnly (.ok (s.yard.waitsBytes (byteAt b 3))) s else replyOnly (.refuse .badValue) s

/-- LANE_QUERY WAITS' row. -/
def laneQueryWaitsRequest : Request :=
  { takes := ofKindSel 0x28 1, length := exactly 4, mode := inRunning, act := queryWaits }

/-- LANE_QUERY_WAITS (R120). -/
def execLaneQueryWaits (s : State) : Host.Outcome State Fault Refusal := .next (laneQueryWaitsRequest.serve s)

/-! ### Holds (R114) -/

/-- LANE_HOLD's action. -/
def holdLane : List Byte → State → State × Reply :=
  onLane 2 (fun l _ s =>
    if 15 ≤ l.hold then replyOnly (.refuse .wrongState) s
    else s.done ((s.yard.setLane l.number (fun l => { l with hold := l.hold + 1 })).updateSign l.number))

/-- LANE_HOLD's row. -/
def laneHoldRequest : Request := { takes := ofKind 0x29, length := exactly 3, mode := inRunning, act := holdLane }

/-- LANE_HOLD (R114). -/
def execLaneHold (s : State) : Host.Outcome State Fault Refusal := .next (laneHoldRequest.serve s)

/-- LANE_UNHOLD's action. -/
def unholdLane : List Byte → State → State × Reply :=
  onLane 2 (fun l _ s =>
    if l.hold = 0 then replyOnly (.refuse .wrongState) s
    else
      let y := (s.yard.setLane l.number (fun l => { l with hold := l.hold - 1 })).updateSign l.number
      s.done (if l.hold = 1 then (y.rerunWaits s.env).raise else y))

/-- LANE_UNHOLD's row. -/
def laneUnholdRequest : Request := { takes := ofKind 0x2A, length := exactly 3, mode := inRunning, act := unholdLane }

/-- LANE_UNHOLD (R114). -/
def execLaneUnhold (s : State) : Host.Outcome State Fault Refusal := .next (laneUnholdRequest.serve s)

/-! ### Closing and opening (R115) -/

/-- LANE_CLOSE's action. -/
def closeLane : List Byte → State → State × Reply :=
  onLane 2 (fun l _ s =>
    if l.closed then replyOnly (.ok []) s
    else if l.occupants.isEmpty && l.reservations.isEmpty then
      s.done ((s.yard.setLane l.number (fun l => { l with closed := true })).updateSign l.number)
    else replyOnly (.refuse .wrongState) s)

/-- LANE_CLOSE's row. -/
def laneCloseRequest : Request := { takes := ofKind 0x2B, length := exactly 3, mode := inRunning, act := closeLane }

/-- LANE_CLOSE (R115). -/
def execLaneClose (s : State) : Host.Outcome State Fault Refusal := .next (laneCloseRequest.serve s)

/-- LANE_OPEN's action. -/
def openLane : List Byte → State → State × Reply :=
  onLane 2 (fun l _ s =>
    if l.closed then
      s.done (((s.yard.setLane l.number (fun l => { l with closed := false })).updateSign l.number).rerunWaits s.env)
    else replyOnly (.refuse .wrongState) s)

/-- LANE_OPEN's row. -/
def laneOpenRequest : Request := { takes := ofKind 0x2C, length := exactly 3, mode := inRunning, act := openLane }

/-- LANE_OPEN (R115). -/
def execLaneOpen (s : State) : Host.Outcome State Fault Refusal := .next (laneOpenRequest.serve s)

/-! ### LANE_FORCE (R111) -/

/-- LANE_FORCE's action; bits 12 to 15 of the two fields are not read (log 22). -/
def forceLane : List Byte → State → State × Reply :=
  onLane 2 (fun l b s =>
    s.done (s.yard.setLane l.number (fun l =>
      { l with forceMask := BitVec.ofNat 12 (wordAt b 3), forceValue := BitVec.ofNat 12 (wordAt b 5) })))

/-- LANE_FORCE's row. -/
def laneForceRequest : Request := { takes := ofKind 0x2D, length := exactly 7, mode := inRunning, act := forceLane }

/-- LANE_FORCE (R111). -/
def execLaneForce (s : State) : Host.Outcome State Fault Refusal := .next (laneForceRequest.serve s)

/-! ### LANE_SET (R119) -/

/-- A listed bus's plan wait is CALLED or SERVING (R119). -/
def Yard.calledOrServed (y : Yard) (f : Nat) : Bool := y.waitIn f [.called, .serving]

/-- LANE_SET's action. -/
def setLaneList (b : List Byte) (s : State) : State × Reply :=
  let n := byteAt b 2
  let fleets := (listAt 2 3 b).map (fun i => wordAt i 0)
  if laneOk n = false ∨ 12 < fleets.length ∨ fleets.all fleetOk = false ∨ noRepeats fleets = false then
    replyOnly (.refuse .badValue) s
  else
    match s.yard.lane? n with
    | none => replyOnly (.refuse .notFound) s
    | some l =>
      if fleets.all (fun f => (s.yard.bus? f).isSome) = false then replyOnly (.refuse .notFound) s
      else if l.hold = 0 ∨ fleets.any s.yard.calledOrServed then replyOnly (.refuse .wrongState) s
      else s.done (s.yard.laneSet s.env n fleets)

/-- LANE_SET's row; its count is limited by its owner (R119). -/
def laneSetRequest : Request :=
  { takes := ofKind 0x2E, length := counted 3 2 0 255, mode := inRunning, act := setLaneList }

/-- LANE_SET (R119). -/
def execLaneSet (s : State) : Host.Outcome State Fault Refusal := .next (laneSetRequest.serve s)

/-! ### SHUNT (R118) -/

/-- The lane a SHUNT of the bus to a target leaves from, when it may be taken. -/
def Yard.shuntSource (y : Yard) (b : Bus) (target : Lane) : Option Nat :=
  match b.position.lane?.bind y.lane? with
  | none => none
  | some l =>
    if (b.wait == .noPlan || b.wait == .ended) && l.number != target.number && l.claimable b.fleet
        && y.usable b target then
      some l.number
    else none

/-- SHUNT's action. -/
def shuntBus (b : List Byte) (s : State) : State × Reply :=
  let f := wordAt b 2
  let n := byteAt b 4
  if fleetOk f = false ∨ laneOk n = false then replyOnly (.refuse .badValue) s
  else
    match s.yard.bus? f, s.yard.lane? n with
    | some bus, some target =>
      match s.yard.shuntSource bus target with
      | some source => s.done (s.yard.startShunt s.env bus source n)
      | none => replyOnly (.refuse .wrongState) s
    | _, _ => replyOnly (.refuse .notFound) s

/-- SHUNT's row. -/
def shuntRequest : Request := { takes := ofKind 0x2F, length := exactly 5, mode := inRunning, act := shuntBus }

/-- SHUNT (R118). -/
def execShunt (s : State) : Host.Outcome State Fault Refusal := .next (shuntRequest.serve s)

end Sys2Proof.Machine
end

