-- ==== Sys2Proof/Machine/Clocks.lean ====
section
/-!
DEFINITION. The yard clock and the day rollover (R10, R11), the parameters (R8, R9), the sighting supervisor (R28, R29), the hold and
round timers (R48, R160), and the two full resets (R13, R14).
-/
namespace Sys2Proof.Machine

/-! ### One second of crystal time -/

/-- A bus's hold timer counts. -/
def Bus.tick (b : Bus) : Bus := { b with holdTimer := b.holdTimer.tick }

/-- A point's timers count. -/
def Point.tick (q : Point) : Point :=
  { q with callTimer := q.callTimer.tick, recoveryTimer := q.recoveryTimer.tick }

/-- A reservation's entry timer counts. -/
def Reservation.tick (r : Reservation) : Reservation := { r with entryTimer := r.entryTimer.tick }

/-- A lane's entry timers count. -/
def Lane.tick (l : Lane) : Lane := { l with reservations := l.reservations.map Reservation.tick }

/-- A lapse timer counts. -/
def Departure.tick (d : Departure) : Departure := { d with lapse := d.lapse.tick }

/-- Every duration timer of the yard counts a second (log 4). -/
def Yard.tick (y : Yard) : Yard :=
  { y with
    supTimer := y.supTimer.tick
    fleet := y.fleet.map Bus.tick
    points := y.points.map Point.tick
    lanes := y.lanes.map Lane.tick
    departures := y.departures.map Departure.tick
    pacing := y.pacing.tick }

/-- Missed calls, wash residue and fuel taken cleared (R31). -/
def Bus.newDay (b : Bus) : Bus := { b with missedCalls := 0, residue := 0, fuelTaken := 0 }

/-- The owners' reactions to a rollover (R31, R79, R95, R139), after DAY_ROLLED. -/
def Yard.newDay (e : Env) (y : Yard) : Yard :=
  let y1 := y.post e .dayRolled 0 none 0 0
  let y2 : Yard :=
    { y1 with
      fleet := y1.fleet.map Bus.newDay
      points := y1.points.map (fun q => { q with tally := 0 }) }
  y2.departuresRollover e

/-- The clock advances from 86399 to 0 and the rollover is raised (R11). -/
def State.rollOver (s : State) : State :=
  let e : Env := { s.env with clock := 0 }
  { s with env := e, yard := s.yard.tick.newDay e }

/-- The end of a second of crystal time (R10). -/
def State.secondEnds (s : State) : State :=
  if Config.lastSecond ≤ s.env.clock then s.rollOver
  else { s with env := { s.env with clock := s.env.clock + 1 }, yard := s.yard.tick }

/-! ### Parameters (R8, R9) -/

/-- A value in the range of Table 1-5; a parameter number outside 1-13 has none. -/
def paramOk (number v : Nat) : Bool :=
  match number with
  | 1 => decide (1 ≤ v) && decide (v ≤ 30)
  | 2 => decide (1 ≤ v) && decide (v ≤ 30)
  | 3 => decide (1 ≤ v) && decide (v ≤ 10)
  | 4 => decide (15 ≤ v) && decide (v ≤ 255)
  | 5 => decide (v ≤ 30)
  | 6 => decide (v ≤ 8)
  | 7 => decide (v ≤ 1439)
  | 8 => decide (v ≤ 1)
  | 9 => [0, 1, 2, 4, 8, 16].contains v
  | 10 => decide (1 ≤ v) && decide (v ≤ 15)
  | 11 => decide (1 ≤ v) && decide (v ≤ 10)
  | 12 => decide (100 ≤ v) && decide (v ≤ 1000)
  | 13 => decide (1 ≤ v) && decide (v ≤ 10)
  | _ => false

/-- A parameter takes a value. -/
def Params.set (p : Params) (number v : Nat) : Params :=
  match number with
  | 1 => { p with callWait := v }
  | 2 => { p with entryWait := v }
  | 3 => { p with releaseLapse := v }
  | 4 => { p with pacingInterval := v }
  | 5 => { p with dueLead := v }
  | 6 => { p with swapWindow := v }
  | 7 => { p with priorityCutoff := v }
  | 8 => { p with invertAllowed := v == 1 }
  | 9 => { p with supervision := v }
  | 10 => { p with sightingReload := v }
  | 11 => { p with recoveryWait := v }
  | 12 => { p with urgentPeriod := v }
  | 13 => { p with routinePeriod := v }
  | _ => p

/-- The supervision timer after a change of its interval (R9, R29). -/
def Timer.retimed (old new : Nat) (t : Timer) : Timer :=
  if new = 0 then none
  else if old = 0 then some (minutes new)
  else t

/-- The owners take the new parameters: the supervision timer, and the clamp of sighting ages (R9, R29). -/
def Yard.retime (old new : Params) (y : Yard) : Yard :=
  { y with
    supTimer := y.supTimer.retimed old.supervision new.supervision
    fleet :=
      if new.sightingReload < old.sightingReload then
        y.fleet.map (fun b => { b with age := min b.age new.sightingReload })
      else y.fleet }

/-- TIMING_SET's pairs: number and value. -/
def timingPairs (b : List Byte) : List (Nat × Nat) := (listAt 3 2 b).map (fun i => (byteAt i 0, wordAt i 1))

/-- TIMING_SET (R8). -/
def setTiming (b : List Byte) (s : State) : State × Reply :=
  let pairs := timingPairs b
  if pairs.all (fun p => paramOk p.1 p.2) && noRepeats (pairs.map Prod.fst) then
    let params := pairs.foldl (fun p v => p.set v.1 v.2) s.env.params
    ({ s with env := { s.env with params }, yard := s.yard.retime s.env.params params }, .ok [])
  else (s, .refuse .badValue)

/-- CLOCK_SET (R10). -/
def setClock (b : List Byte) (s : State) : State × Reply :=
  if tripleAt b 2 ≤ Config.lastSecond then ({ s with env := { s.env with clock := tripleAt b 2 } }, .ok [])
  else (s, .refuse .badValue)

/-! ### The sighting supervisor (R28, R29) -/

/-- The supervision expiry lowers this bus's age. -/
def Bus.supervised (b : Bus) : Bool := b.position != .outside && decide (0 < b.age)

/-- A bus at a supervision expiry. -/
def Bus.lowered (b : Bus) : Bus := if b.supervised then { b with age := b.age - 1 } else b

/-- SIGHT_LOST for a bus whose age reached 0 (Table 2-5). -/
def Yard.sightLost (e : Env) (y : Yard) (b : Bus) : Yard :=
  y.post e .sightLost b.fleet b.position.place b.position.code 0

/-- A supervision expiry (R28, R29, R9). -/
def Yard.supervise (e : Env) (y : Yard) : Yard :=
  if y.supTimer.isSome then
    let lost := y.fleet.filter (fun b => b.supervised && b.age == 1)
    let y1 : Yard :=
      { y with
        supTimer := if e.params.supervision = 0 then none else some (minutes e.params.supervision)
        fleet := y.fleet.map Bus.lowered }
    lost.foldl (Yard.sightLost e) y1
  else y

/-! ### Other timers -/

/-- A bus's hold timer expires (R48). -/
def Yard.holdLapse (e : Env) (f : Nat) (y : Yard) : Yard :=
  match y.bus? f with
  | none => y
  | some b =>
    if b.wait = .hold ∧ b.holdTimer.isSome then
      (y.setBus f (fun b => { b with holdTimer := none })).advancePast e f
    else y

/-- A round timer expires (R160). -/
def Rounds.lapse (p : Params) (c : RoundClass) (r : Rounds) : Rounds :=
  match c with
  | .urgent =>
    if r.urgentTimer.isSome then { r with urgentDue := true, urgentTimer := some p.urgentPeriod } else r
  | .routine =>
    if r.routineTimer.isSome then { r with routineDue := true, routineTimer := some (p.routinePeriod * 1000) } else r

/-! ### Resets -/

/-- RSTN held low (R13, log 6): nothing is sent on either link, YLDE is low. -/
def State.heldInReset (s : State) : State :=
  { s with
    rstnLow := true
    link := { s.link with sending := none }
    line := s.line.freed }

/-- The release of RSTN (R13). The model's own queue is kept (log 7). -/
def State.pinReset (s : State) : State :=
  { State.reset with pending := s.pending }

/-- The notice unit after a YARD_RESET: map and enables kept, RESET_DONE taken under them (R179). -/
def Notices.yardReset (u : Notices) : Notices :=
  Notices.post 0 .resetDone 0 none 2 0
    { Notices.cleared with classes := u.classes, enable1 := u.enable1, enable2 := u.enable2, enable3 := u.enable3 }

/-- YARD_RESET's effects (R14, R159, R179, R187). The ASK_RESULT notices of discarded asks leave nothing behind. -/
def State.yardReset (s : State) : State :=
  { State.reset with
    env := { Env.reset with plan := s.env.plan }
    yard := Yard.emptied s.yard.notices.yardReset
    line := { s.line.cut with frame := [] }
    link := { s.link with frameErrors := 0 }
    pending := s.pending }

end Sys2Proof.Machine
end

