-- ==== Sys2Proof/Machine/LayoutCommands.lean ====
section
/-!
DEFINITION. Meanings of the requests of Chapter 1 (R3-R14).
-/
namespace Sys2Proof.Machine

/-- LANE_DEFINE with the action DEFINE, or any but REMOVE (R3). -/
def laneDefineRequest : Request :=
  { takes := ofKindElse 0x01 1, length := byForm 8 4, mode := inUnconfigured, act := defineLane }

/-- LANE_DEFINE (R3). -/
def execLaneDefine (s : State) : Host.Outcome State Fault Refusal := .next (laneDefineRequest.serve s)

/-- LANE_DEFINE with the action REMOVE (R3). -/
def laneDefineRemoveRequest : Request :=
  { takes := ofKindSel 0x01 1, length := exactly 4, mode := inUnconfigured, act := removeLane }

/-- LANE_DEFINE_REMOVE (R3). -/
def execLaneDefineRemove (s : State) : Host.Outcome State Fault Refusal := .next (laneDefineRemoveRequest.serve s)

/-- POINT_DEFINE with the action DEFINE, or any but REMOVE (R4). -/
def pointDefineRequest : Request :=
  { takes := ofKindElse 0x02 1, length := byForm 7 5, mode := inUnconfigured, act := definePoint }

/-- POINT_DEFINE (R4). -/
def execPointDefine (s : State) : Host.Outcome State Fault Refusal := .next (pointDefineRequest.serve s)

/-- POINT_DEFINE with the action REMOVE (R4). -/
def pointDefineRemoveRequest : Request :=
  { takes := ofKindSel 0x02 1, length := exactly 5, mode := inUnconfigured, act := removePoint }

/-- POINT_DEFINE_REMOVE (R4). -/
def execPointDefineRemove (s : State) : Host.Outcome State Fault Refusal :=
  .next (pointDefineRemoveRequest.serve s)

/-- STATION_DEFINE with the action DEFINE, or any but REMOVE (R5). -/
def stationDefineRequest : Request :=
  { takes := ofKindElse 0x03 1, length := byForm 5 4, mode := inUnconfigured, act := defineStation }

/-- STATION_DEFINE (R5). -/
def execStationDefine (s : State) : Host.Outcome State Fault Refusal := .next (stationDefineRequest.serve s)

/-- STATION_DEFINE with the action REMOVE (R5). -/
def stationDefineRemoveRequest : Request :=
  { takes := ofKindSel 0x03 1, length := exactly 4, mode := inUnconfigured, act := removeStation }

/-- STATION_DEFINE_REMOVE (R5). -/
def execStationDefineRemove (s : State) : Host.Outcome State Fault Refusal :=
  .next (stationDefineRemoveRequest.serve s)

/-- LAYOUT_COMMIT's row. -/
def layoutCommitRequest : Request :=
  { takes := ofKind 0x04, length := exactly 2, mode := inUnconfigured, act := commitLayout }

/-- LAYOUT_COMMIT (R6, R7). -/
def execLayoutCommit (s : State) : Host.Outcome State Fault Refusal := .next (layoutCommitRequest.serve s)

/-- TIMING_SET's row. -/
def timingSetRequest : Request :=
  { takes := ofKind 0x05, length := counted 2 3 1 13, mode := anyMode, act := setTiming }

/-- TIMING_SET (R8, R9). -/
def execTimingSet (s : State) : Host.Outcome State Fault Refusal := .next (timingSetRequest.serve s)

/-- CLOCK_SET's row. -/
def clockSetRequest : Request := { takes := ofKind 0x06, length := exactly 5, mode := anyMode, act := setClock }

/-- CLOCK_SET (R10). -/
def execClockSet (s : State) : Host.Outcome State Fault Refusal := .next (clockSetRequest.serve s)

/-- STATUS_QUERY's row. -/
def statusQueryRequest : Request :=
  { takes := ofKind 0x07, length := exactly 2, mode := anyMode, act := fun _ s => (s, .ok s.statusBytes) }

/-- STATUS_QUERY (R12). -/
def execStatusQuery (s : State) : Host.Outcome State Fault Refusal := .next (statusQueryRequest.serve s)

/-- YARD_RESET's row. -/
def yardResetRequest : Request :=
  { takes := ofKind 0x08, length := exactly 2, mode := anyMode, act := fun _ s => (s.yardReset, .ok []) }

/-- YARD_RESET (R14). -/
def execYardReset (s : State) : Host.Outcome State Fault Refusal := .next (yardResetRequest.serve s)

end Sys2Proof.Machine
end

