-- ==== Sys2Proof/Machine/LineCommands.lean ====
section
/-!
DEFINITION. Meanings of the requests of Chapter 8 (R154, R156, R158) and of the line's own events (R143, R147, R149, R155, R163).
-/
namespace Sys2Proof.Machine

/-- The ask a LINE_ASK body carries, if every field is in range (R154). -/
def askOf (b : List Byte) : Option Ask :=
  match askOpOf (byteAt b 3) with
  | none => none
  | some op =>
    if addressOk (byteAt b 2) ∧ (op = .write ∨ wordAt b 5 = 0) then
      some { tag := b.getD 1 0, address := byteAt b 2, op, item := byteAt b 4, value := wordAt b 5 }
    else none

/-- LINE_ASK's action (R154). -/
def queueAsk (b : List Byte) (s : State) : State × Reply :=
  match askOf b with
  | none => replyOnly (.refuse .badValue) s
  | some a =>
    if Config.askRoom ≤ s.line.asks.length then replyOnly (.refuse .busy) s
    else ({ s with line := { s.line with asks := s.line.asks ++ [a] } }, .ok [])

/-- LINE_ASK's row. -/
def lineAskRequest : Request := { takes := ofKind 0x38, length := exactly 7, mode := anyMode, act := queueAsk }

/-- LINE_ASK (R154). -/
def execLineAsk (s : State) : Host.Outcome State Fault Refusal := .next (lineAskRequest.serve s)

/-- LINE_RESTART's row. -/
def lineRestartRequest : Request :=
  { takes := ofKind 0x39, length := exactly 2, mode := anyMode, act := fun _ s => (s.restartLine, .ok []) }

/-- LINE_RESTART (R156, R157). -/
def execLineRestart (s : State) : Host.Outcome State Fault Refusal := .next (lineRestartRequest.serve s)

/-- STATION_QUERY's action (R158). -/
def queryStations (b : List Byte) (s : State) : State × Reply :=
  if addressOk (byteAt b 2) then replyOnly (.ok (s.stationList (byteAt b 2))) s
  else replyOnly (.refuse .badValue) s

/-- STATION_QUERY's row. -/
def stationQueryRequest : Request :=
  { takes := ofKind 0x3A, length := exactly 3, mode := anyMode, act := queryStations }

/-- STATION_QUERY (R158). -/
def execStationQuery (s : State) : Host.Outcome State Fault Refusal := .next (stationQueryRequest.serve s)

/-- LINE_GRANT (R147, R148, R161). -/
def execLineGrant (s : State) : Host.Outcome State Fault Refusal := .next (s.powered State.grant)

/-- LINE_IDLE_WAIT_END (R143, R163, R164, R169). -/
def execLineIdleWaitEnd (s : State) : Host.Outcome State Fault Refusal := .next (s.powered State.idleWaitEnd)

/-- ROUND_POLL_ANSWER (R163-R166). -/
def execRoundPollAnswer (w : AnswerWindow) (s : State) : Host.Outcome State Fault Refusal := .next (s.pollAnswer w)

/-- COMMAND_ANSWER (R149). -/
def execCommandAnswer (w : AnswerWindow) (s : State) : Host.Outcome State Fault Refusal := .next (s.commandAnswer w)

/-- ASK_ANSWER (R155). -/
def execAskAnswer (w : AnswerWindow) (s : State) : Host.Outcome State Fault Refusal := .next (s.askAnswer w)

end Sys2Proof.Machine
end

