-- ==== Sys2Proof/Machine/LinkCommands.lean ====
section
/-!
DEFINITION. Meanings of the pins, the host link's own events, UNKNOWN_KIND and ECHO (R13, R180-R186).
-/
namespace Sys2Proof.Machine

/-- PIN_RESET_ASSERT (R13). -/
def execPinResetAssert (s : State) : Host.Outcome State Fault Refusal := .next s.heldInReset

/-- PIN_RESET (R13). -/
def execPinReset (s : State) : Host.Outcome State Fault Refusal := .next s.pinReset

/-- Bytes as characters. -/
def asChars (bytes : List Byte) : List RxChar := bytes.map RxChar.byte

/-- HOST_FRAME (R180, R182). -/
def execHostFrame (bytes : List Byte) (s : State) : Host.Outcome State Fault Refusal :=
  .next (s.powered (fun s => { s with link := s.link.chars (asChars bytes) }))

/-- FRAME_ERROR (R180): characters that end in a frame error. -/
def execFrameError (bytes : List Byte) (framing : Bool) (s : State) : Host.Outcome State Fault Refusal :=
  .next (s.powered (fun s =>
    { s with link := s.link.chars (asChars bytes ++ (if framing then [RxChar.framingError] else [])) }))

/-- CHARACTER_GAP_TIMEOUT (R180): characters, then a gap of more than 5 ms. -/
def execCharacterGapTimeout (bytes : List Byte) (s : State) : Host.Outcome State Fault Refusal :=
  .next (s.powered (fun s => { s with link := (s.link.chars (asChars bytes)).gap }))

/-- REPLY_FRAME_BEGIN (R185). -/
def execReplyFrameBegin (s : State) : Host.Outcome State Fault Refusal :=
  .next (s.powered (fun s => { s with link := s.link.beginReply }))

/-- NOTICE_FRAME_BEGIN (R177, R185). -/
def execNoticeFrameBegin (s : State) : Host.Outcome State Fault Refusal := .next (s.powered State.beginNotice)

/-- FRAME_SENT (R185). -/
def execFrameSent (s : State) : Host.Outcome State Fault Refusal :=
  .next (s.powered (fun s => { s with link := { s.link with sending := none } }))

/-- UNKNOWN_KIND (R183). -/
def execUnknownKind (s : State) : Host.Outcome State Fault Refusal := .next (unknownKindRequest.serve s)

/-- ECHO's row (R186). -/
def echoRequest : Request :=
  { takes := ofKind 0x3F
    length := fun b => decide (2 ≤ b.length) && decide (b.length ≤ 239)
    mode := anyMode
    act := fun b s => (s, .ok (b.drop 2)) }

/-- ECHO (R186). -/
def execEcho (s : State) : Host.Outcome State Fault Refusal := .next (echoRequest.serve s)

end Sys2Proof.Machine
end

