-- ==== Sys2Proof/Machine/NoticeCommands.lean ====
section
/-!
DEFINITION. Meanings of the requests of Chapter 10 (R173, R174, R178).
-/
namespace Sys2Proof.Machine

/-- The notice unit changed, OK with data. -/
def State.noticed (s : State) (u : Notices) (data : List Byte) : State × Reply :=
  ({ s with yard := { s.yard with notices := u } }, .ok data)

/-- NOTICE_MAP's pairs. -/
def mapPairs (b : List Byte) : List (Nat × Nat) := (listAt 2 2 b).map (fun i => (byteAt i 0, byteAt i 1))

/-- A pair within range (R173). -/
def mapPairOk (p : Nat × Nat) : Bool := decide (1 ≤ p.1) && decide (p.1 ≤ 42) && decide (p.2 ≤ 3)

/-- NOTICE_MAP's action. -/
def mapNotices (b : List Byte) (s : State) : State × Reply :=
  let pairs := mapPairs b
  if pairs.all mapPairOk && noRepeats (pairs.map Prod.fst) then
    let u := s.yard.notices
    let u1 : Notices := { u with classes := pairs.foldl (fun c p => c.set (p.1 - 1) p.2) u.classes }
    s.noticed u1 u1.mapBytes
  else replyOnly (.refuse .badValue) s

/-- NOTICE_MAP's row. -/
def noticeMapRequest : Request :=
  { takes := ofKind 0x3C, length := counted 2 2 0 42, mode := anyMode, act := mapNotices }

/-- NOTICE_MAP (R173). -/
def execNoticeMap (s : State) : Host.Outcome State Fault Refusal := .next (noticeMapRequest.serve s)

/-- NOTICE_ENABLE's action. -/
def enableNotices (b : List Byte) (s : State) : State × Reply :=
  match flagOf (byteAt b 2), flagOf (byteAt b 3), flagOf (byteAt b 4) with
  | some e1, some e2, some e3 =>
    let u : Notices := { s.yard.notices with enable1 := e1, enable2 := e2, enable3 := e3 }
    s.noticed u u.enableBytes
  | _, _, _ => replyOnly (.refuse .badValue) s

/-- NOTICE_ENABLE's row. -/
def noticeEnableRequest : Request :=
  { takes := ofKind 0x3D, length := exactly 5, mode := anyMode, act := enableNotices }

/-- NOTICE_ENABLE (R174). -/
def execNoticeEnable (s : State) : Host.Outcome State Fault Refusal := .next (noticeEnableRequest.serve s)

/-- NOTICE_TALLY's action: the tallies answered, then set to 0. -/
def tallyNotices (_b : List Byte) (s : State) : State × Reply :=
  s.noticed { s.yard.notices with tallies := List.replicate 42 0 } s.yard.notices.tallyBytes

/-- NOTICE_TALLY's row. -/
def noticeTallyRequest : Request :=
  { takes := ofKind 0x3E, length := exactly 2, mode := anyMode, act := tallyNotices }

/-- NOTICE_TALLY (R178). -/
def execNoticeTally (s : State) : Host.Outcome State Fault Refusal := .next (noticeTallyRequest.serve s)

end Sys2Proof.Machine
end

