-- ==== Sys2Proof/Machine/PlanCommands.lean ====
section
/-!
DEFINITION. Meanings of the requests of Chapter 3 (R34-R38, R52, R53).
-/
namespace Sys2Proof.Machine

/-- PLAN_WRITE's action (R34). -/
def writePlan (b : List Byte) (s : State) : State × Reply :=
  let start := wordAt b 2
  match stepsOf (listAt 6 4 b) with
  | none => replyOnly (.refuse .badValue) s
  | some records =>
    if start + records.length ≤ Config.planSlots ∧ start < Config.planSlots then
      ({ s with env := { s.env with plan := s.env.plan.writeAll start records } }, .ok [])
    else replyOnly (.refuse .badValue) s

/-- PLAN_WRITE's row. -/
def planWriteRequest : Request :=
  { takes := ofKind 0x18, length := counted 4 6 1 16, mode := anyMode, act := writePlan }

/-- PLAN_WRITE (R34). -/
def execPlanWrite (s : State) : Host.Outcome State Fault Refusal := .next (planWriteRequest.serve s)

/-- PLAN_READ's action (R36). -/
def readPlan (b : List Byte) (s : State) : State × Reply :=
  let start := wordAt b 2
  let count := byteAt b 4
  if start < Config.planSlots ∧ 1 ≤ count ∧ count ≤ 16 ∧ start + count ≤ Config.planSlots then
    replyOnly (.ok (s.env.plan.listed start count)) s
  else replyOnly (.refuse .badValue) s

/-- PLAN_READ's row. -/
def planReadRequest : Request := { takes := ofKind 0x19, length := exactly 5, mode := anyMode, act := readPlan }

/-- PLAN_READ (R36). -/
def execPlanRead (s : State) : Host.Outcome State Fault Refusal := .next (planReadRequest.serve s)

/-- PLAN_START's action (R38). -/
def startPlan (b : List Byte) (s : State) : State × Reply :=
  let f := wordAt b 2
  let a := wordAt b 4
  if fleetOk f = false ∨ Config.planSlots ≤ a then replyOnly (.refuse .badValue) s
  else
    match s.yard.bus? f with
    | none => replyOnly (.refuse .notFound) s
    | some bus =>
      if bus.wait.startable then
        let y := s.yard.planStart s.env f a
        ({ s with yard := y }, .ok (y.planBytes f))
      else replyOnly (.refuse .wrongState) s

/-- PLAN_START's row. -/
def planStartRequest : Request := { takes := ofKind 0x1A, length := exactly 6, mode := inRunning, act := startPlan }

/-- PLAN_START (R38). -/
def execPlanStart (s : State) : Host.Outcome State Fault Refusal := .next (planStartRequest.serve s)

/-- PLAN_RESUME's action (R52). -/
def resumePlan (b : List Byte) (s : State) : State × Reply :=
  let f := wordAt b 2
  if fleetOk f = false then replyOnly (.refuse .badValue) s
  else
    match s.yard.bus? f with
    | none => replyOnly (.refuse .notFound) s
    | some bus =>
      if bus.wait = .stalled then
        let y := s.yard.advance s.env f (bus.cursor.getD 0)
        ({ s with yard := y }, .ok (y.planBytes f))
      else replyOnly (.refuse .wrongState) s

/-- PLAN_RESUME's row. -/
def planResumeRequest : Request := { takes := ofKind 0x1B, length := exactly 4, mode := inRunning, act := resumePlan }

/-- PLAN_RESUME (R52). -/
def execPlanResume (s : State) : Host.Outcome State Fault Refusal := .next (planResumeRequest.serve s)

/-- PLAN_ABORT's action (R53). -/
def abortPlanOf (b : List Byte) (s : State) : State × Reply :=
  let f := wordAt b 2
  if fleetOk f = false then replyOnly (.refuse .badValue) s
  else
    match s.yard.bus? f with
    | none => replyOnly (.refuse .notFound) s
    | some bus => s.done (s.yard.abortPlan s.env bus)

/-- PLAN_ABORT's row. -/
def planAbortRequest : Request := { takes := ofKind 0x1C, length := exactly 4, mode := inRunning, act := abortPlanOf }

/-- PLAN_ABORT (R53). -/
def execPlanAbort (s : State) : Host.Outcome State Fault Refusal := .next (planAbortRequest.serve s)

end Sys2Proof.Machine
end

