-- ==== Sys2Proof/Machine/TimerEvents.lean ====
section
/-!
DEFINITION. Meanings of the clock's events, the timer expiries and the selection events.
-/
namespace Sys2Proof.Machine

/-- A yard event that RSTN held low keeps from happening. -/
def State.yardEvent (g : Env → Yard → Yard) (s : State) : State := s.powered (State.onYard g)

/-- CLOCK_ADVANCE (R10): an advance from 86399 is the rollover too (log 8). -/
def execClockAdvance (s : State) : Host.Outcome State Fault Refusal := .next (s.powered State.secondEnds)

/-- DAY_ROLLOVER (R11): the advance from 86399 to 0 (log 8). -/
def execDayRollover (s : State) : Host.Outcome State Fault Refusal :=
  .next (s.powered (fun s => if s.env.clock = Config.lastSecond then s.rollOver else s))

/-- SUPERVISION_EXPIRY (R28). -/
def execSupervisionExpiry (s : State) : Host.Outcome State Fault Refusal := .next (s.yardEvent Yard.supervise)

/-- HOLD_EXPIRY (R48). -/
def execHoldExpiry (fleet : Nat) (s : State) : Host.Outcome State Fault Refusal :=
  .next (s.yardEvent (fun e => Yard.holdLapse e fleet))

/-- CALL_TIMER_EXPIRY (R66, R82). -/
def execCallTimerExpiry (point : PointId) (s : State) : Host.Outcome State Fault Refusal :=
  .next (s.yardEvent (fun e => Yard.callTimeout e point))

/-- ISLAND_RECOVERY_EXPIRY (R73). -/
def execIslandRecoveryExpiry (island : Nat) (s : State) : Host.Outcome State Fault Refusal :=
  .next (s.yardEvent (fun e => Yard.islandRecoveryLapse e (.island island)))

/-- WASH_RECOVERY_EXPIRY (R89). -/
def execWashRecoveryExpiry (lane : Nat) (s : State) : Host.Outcome State Fault Refusal :=
  .next (s.yardEvent (fun e => Yard.washRecoveryLapse e (.wash lane)))

/-- ENTRY_TIMER_EXPIRY (R108). -/
def execEntryTimerExpiry (fleet : Nat) (s : State) : Host.Outcome State Fault Refusal :=
  .next (s.yardEvent (fun e => Yard.entryLapse e fleet))

/-- RELEASE_LAPSE_EXPIRY (R135). -/
def execReleaseLapseExpiry (fleet : Nat) (s : State) : Host.Outcome State Fault Refusal :=
  .next (s.yardEvent (fun e => Yard.releaseLapse e fleet))

/-- PACING_EXPIRY (R128). -/
def execPacingExpiry (s : State) : Host.Outcome State Fault Refusal := .next (s.yardEvent Yard.pacingLapse)

/-- ROUND_TIMER_EXPIRY (R160). -/
def execRoundTimerExpiry (cls : RoundClass) (s : State) : Host.Outcome State Fault Refusal :=
  .next (s.powered (fun s => { s with rounds := s.rounds.lapse s.env.params cls }))

/-- ISLAND_SELECTION (R60, R63). -/
def execIslandSelection (island : Nat) (s : State) : Host.Outcome State Fault Refusal :=
  .next (s.yardEvent (fun e => Yard.selectionEvent e (.island island)))

/-- WASH_SELECTION (R60, R82). -/
def execWashSelection (lane : Nat) (s : State) : Host.Outcome State Fault Refusal :=
  .next (s.yardEvent (fun e => Yard.selectionEvent e (.wash lane)))

end Sys2Proof.Machine
end

