-- ==== Sys2Proof/Machine/TurnCommands.lean ====
section
/-!
DEFINITION. Meanings of the requests of Chapters 4 and 5 (R74, R75, R78, R91-R93).
-/
namespace Sys2Proof.Machine

/-- TURN_QUERY QUEUE's action; a form other than QUEUE or POINTS is answered BAD_VALUE here (R78). -/
def queryQueue (b : List Byte) (s : State) : State × Reply :=
  let code := byteAt b 3
  let start := byteAt b 4
  if byteAt b 2 = 0 ∧ 1 ≤ code ∧ code ≤ 3 ∧ start ≤ 47 then
    replyOnly (.ok (queueBytes (s.yard.queueOf code) start)) s
  else replyOnly (.refuse .badValue) s

/-- TURN_QUERY QUEUE's row. -/
def turnQueryQueueRequest : Request :=
  { takes := ofKindElse 0x20 1, length := byForm 5 3, mode := inRunning, act := queryQueue }

/-- TURN_QUERY_QUEUE (R78). -/
def execTurnQueryQueue (s : State) : Host.Outcome State Fault Refusal := .next (turnQueryQueueRequest.serve s)

/-- TURN_QUERY POINTS' row. -/
def turnQueryPointsRequest : Request :=
  { takes := ofKindSel 0x20 1, length := exactly 3, mode := inRunning
    act := fun _ s => replyOnly (.ok s.yard.pointsBytes) s }

/-- TURN_QUERY_POINTS (R78). -/
def execTurnQueryPoints (s : State) : Host.Outcome State Fault Refusal := .next (turnQueryPointsRequest.serve s)

/-- POINT_CLOSE's action (R74, R93); a kind byte that is neither an island's nor a wash lane's is answered BAD_VALUE here, the model's
choice (log 23). -/
def closeNamed (b : List Byte) (s : State) : State × Reply :=
  match pointOf (byteAt b 2) (byteAt b 3) with
  | none => replyOnly (.refuse .badValue) s
  | some p =>
    match s.yard.point? p with
    | none => replyOnly (.refuse .notFound) s
    | some q => s.done (s.yard.hostClose s.env q)

/-- POINT_CLOSE's row. -/
def pointCloseRequest : Request := { takes := ofKind 0x21, length := exactly 4, mode := inRunning, act := closeNamed }

/-- POINT_CLOSE (R74, R93). -/
def execPointClose (s : State) : Host.Outcome State Fault Refusal := .next (pointCloseRequest.serve s)

/-- POINT_OPEN's action (R75, R93); a kind byte of neither kind is answered BAD_VALUE here (log 23). -/
def openNamed (b : List Byte) (s : State) : State × Reply :=
  match pointOf (byteAt b 2) (byteAt b 3) with
  | none => replyOnly (.refuse .badValue) s
  | some p =>
    match s.yard.point? p with
    | none => replyOnly (.refuse .notFound) s
    | some q =>
      match s.yard.hostOpen s.env q with
      | some y => s.done y
      | none => replyOnly (.refuse .wrongState) s

/-- POINT_OPEN's row. -/
def pointOpenRequest : Request := { takes := ofKind 0x22, length := exactly 4, mode := inRunning, act := openNamed }

/-- POINT_OPEN (R75, R93). -/
def execPointOpen (s : State) : Host.Outcome State Fault Refusal := .next (pointOpenRequest.serve s)

/-- FROST_SET on; a setting other than on or off is answered BAD_VALUE here (R91). -/
def setFrostOn (b : List Byte) (s : State) : State × Reply :=
  if byteAt b 2 ≠ 1 then replyOnly (.refuse .badValue) s
  else s.done (if s.yard.frost then s.yard else s.yard.frostOn s.env)

/-- FROST_SET on's row. -/
def frostSetOnRequest : Request :=
  { takes := ofKindElse 0x24 0, length := exactly 3, mode := inRunning, act := setFrostOn }

/-- FROST_SET_ON (R91). -/
def execFrostSetOn (s : State) : Host.Outcome State Fault Refusal := .next (frostSetOnRequest.serve s)

/-- FROST_SET off (R92). -/
def setFrostOff (_b : List Byte) (s : State) : State × Reply :=
  s.done (if s.yard.frost then s.yard.frostOff else s.yard)

/-- FROST_SET off's row. -/
def frostSetOffRequest : Request :=
  { takes := ofKindSel 0x24 0, length := exactly 3, mode := inRunning, act := setFrostOff }

/-- FROST_SET_OFF (R92). -/
def execFrostSetOff (s : State) : Host.Outcome State Fault Refusal := .next (frostSetOffRequest.serve s)

end Sys2Proof.Machine
end

