-- ==== Sys2Proof/Machine/Dispatch.lean ====
section
/-!
DEFINITION. The meaning of each command: one arm per constructor of Instr.
-/
namespace Sys2Proof.Machine

def exec (i : Instr) (s : State) : Host.Outcome State Fault Refusal :=
  match i with
  | .pinResetAssert => Sys2Proof.Machine.execPinResetAssert s
  | .pinReset => Sys2Proof.Machine.execPinReset s
  | .hostFrame bytes => Sys2Proof.Machine.execHostFrame bytes s
  | .frameError bytes framing => Sys2Proof.Machine.execFrameError bytes framing s
  | .characterGapTimeout bytes => Sys2Proof.Machine.execCharacterGapTimeout bytes s
  | .replyFrameBegin => Sys2Proof.Machine.execReplyFrameBegin s
  | .noticeFrameBegin => Sys2Proof.Machine.execNoticeFrameBegin s
  | .frameSent => Sys2Proof.Machine.execFrameSent s
  | .unknownKind => Sys2Proof.Machine.execUnknownKind s
  | .laneDefine => Sys2Proof.Machine.execLaneDefine s
  | .laneDefineRemove => Sys2Proof.Machine.execLaneDefineRemove s
  | .pointDefine => Sys2Proof.Machine.execPointDefine s
  | .pointDefineRemove => Sys2Proof.Machine.execPointDefineRemove s
  | .stationDefine => Sys2Proof.Machine.execStationDefine s
  | .stationDefineRemove => Sys2Proof.Machine.execStationDefineRemove s
  | .layoutCommit => Sys2Proof.Machine.execLayoutCommit s
  | .timingSet => Sys2Proof.Machine.execTimingSet s
  | .clockSet => Sys2Proof.Machine.execClockSet s
  | .statusQuery => Sys2Proof.Machine.execStatusQuery s
  | .yardReset => Sys2Proof.Machine.execYardReset s
  | .clockAdvance => Sys2Proof.Machine.execClockAdvance s
  | .dayRollover => Sys2Proof.Machine.execDayRollover s
  | .busEnrol => Sys2Proof.Machine.execBusEnrol s
  | .busSet => Sys2Proof.Machine.execBusSet s
  | .busQueryRecord => Sys2Proof.Machine.execBusQueryRecord s
  | .busQueryList => Sys2Proof.Machine.execBusQueryList s
  | .busWithdraw => Sys2Proof.Machine.execBusWithdraw s
  | .planWrite => Sys2Proof.Machine.execPlanWrite s
  | .planRead => Sys2Proof.Machine.execPlanRead s
  | .planStart => Sys2Proof.Machine.execPlanStart s
  | .planResume => Sys2Proof.Machine.execPlanResume s
  | .planAbort => Sys2Proof.Machine.execPlanAbort s
  | .turnQueryQueue => Sys2Proof.Machine.execTurnQueryQueue s
  | .turnQueryPoints => Sys2Proof.Machine.execTurnQueryPoints s
  | .pointClose => Sys2Proof.Machine.execPointClose s
  | .pointOpen => Sys2Proof.Machine.execPointOpen s
  | .frostSetOn => Sys2Proof.Machine.execFrostSetOn s
  | .frostSetOff => Sys2Proof.Machine.execFrostSetOff s
  | .laneQueryLane => Sys2Proof.Machine.execLaneQueryLane s
  | .laneQueryWaits => Sys2Proof.Machine.execLaneQueryWaits s
  | .laneHold => Sys2Proof.Machine.execLaneHold s
  | .laneUnhold => Sys2Proof.Machine.execLaneUnhold s
  | .laneClose => Sys2Proof.Machine.execLaneClose s
  | .laneOpen => Sys2Proof.Machine.execLaneOpen s
  | .laneForce => Sys2Proof.Machine.execLaneForce s
  | .laneSet => Sys2Proof.Machine.execLaneSet s
  | .shunt => Sys2Proof.Machine.execShunt s
  | .slotAdd => Sys2Proof.Machine.execSlotAdd s
  | .slotRemove => Sys2Proof.Machine.execSlotRemove s
  | .slotMove => Sys2Proof.Machine.execSlotMove s
  | .pulloutStart => Sys2Proof.Machine.execPulloutStart s
  | .pulloutStop => Sys2Proof.Machine.execPulloutStop s
  | .departQuery => Sys2Proof.Machine.execDepartQuery s
  | .lineAsk => Sys2Proof.Machine.execLineAsk s
  | .lineRestart => Sys2Proof.Machine.execLineRestart s
  | .stationQuery => Sys2Proof.Machine.execStationQuery s
  | .noticeMap => Sys2Proof.Machine.execNoticeMap s
  | .noticeEnable => Sys2Proof.Machine.execNoticeEnable s
  | .noticeTally => Sys2Proof.Machine.execNoticeTally s
  | .echo => Sys2Proof.Machine.execEcho s
  | .supervisionExpiry => Sys2Proof.Machine.execSupervisionExpiry s
  | .holdExpiry fleet => Sys2Proof.Machine.execHoldExpiry fleet s
  | .callTimerExpiry point => Sys2Proof.Machine.execCallTimerExpiry point s
  | .islandRecoveryExpiry island => Sys2Proof.Machine.execIslandRecoveryExpiry island s
  | .washRecoveryExpiry lane => Sys2Proof.Machine.execWashRecoveryExpiry lane s
  | .entryTimerExpiry fleet => Sys2Proof.Machine.execEntryTimerExpiry fleet s
  | .releaseLapseExpiry fleet => Sys2Proof.Machine.execReleaseLapseExpiry fleet s
  | .pacingExpiry => Sys2Proof.Machine.execPacingExpiry s
  | .roundTimerExpiry cls => Sys2Proof.Machine.execRoundTimerExpiry cls s
  | .islandSelection island => Sys2Proof.Machine.execIslandSelection island s
  | .washSelection lane => Sys2Proof.Machine.execWashSelection lane s
  | .lineGrant => Sys2Proof.Machine.execLineGrant s
  | .lineIdleWaitEnd => Sys2Proof.Machine.execLineIdleWaitEnd s
  | .roundPollAnswer window => Sys2Proof.Machine.execRoundPollAnswer window s
  | .commandAnswer window => Sys2Proof.Machine.execCommandAnswer window s
  | .askAnswer window => Sys2Proof.Machine.execAskAnswer window s

end Sys2Proof.Machine
end

