-- ==== Sys2Proof/Machine/Step.lean ====
section
/-!
DEFINITION. One step: the command at the front of the queue, or the end of a master frame (log 3), and the placing of a command for the
next step.
-/
namespace Sys2Proof.Machine

/-- The front of the queue taken and executed on the state with the queue's rest. With the queue empty the block idles, and a master
frame being sent ends: the tick of a model whose table has no row for it (R143; logs 3, 10). -/
def step (s : State) : Host.Outcome State Fault Refusal :=
  match s.pending with
  | [] => .next s.idle
  | i :: rest => exec i { s with pending := rest }

/-- The command a word of the opcode table spells, put at the front of the queue; no row has bits, so none does (log 27). -/
def State.withFetchWord (s : State) (nbits w : Nat) : State :=
  match decodeTableWord nbits w with
  | some i => { s with pending := i :: s.pending }
  | none => s

end Sys2Proof.Machine
end

