-- ==== Sys2Proof/WellFormed.lean ====
section
/-!
DEFINITION. When a command's operands lie in the ranges the spec gives them (0.5, R180, R144).
-/
namespace Sys2Proof

/-- Islands are 1-4 and wash lanes 1-2 (0.5). -/
def PointId.wellFormed : PointId → Bool
  | .island n => 1 ≤ n && n ≤ 4
  | .wash n => 1 ≤ n && n ≤ 2

/-- Fleet numbers are 1-9999 (0.5). -/
def fleetInRange (f : Nat) : Bool := 1 ≤ f && f ≤ 9999

/-- An answer has begun, so it holds a character (R144). -/
def AnswerWindow.wellFormed : AnswerWindow → Bool
  | .silent => true
  | .answer chars _ => !chars.isEmpty

/-- The longest host frame: start, length, 240 body bytes and two check bytes (Table 11-4). -/
def longestFrame : Nat := 244

/-- Operands in their ranges. -/
def Instr.wellFormed : Instr → Bool
  | .hostFrame bytes => !bytes.isEmpty && bytes.length ≤ longestFrame
  | .frameError bytes framing => (!bytes.isEmpty || framing) && bytes.length ≤ longestFrame
  | .characterGapTimeout bytes => bytes.length ≤ longestFrame
  | .holdExpiry f => fleetInRange f
  | .callTimerExpiry p => p.wellFormed
  | .islandRecoveryExpiry n => (PointId.island n).wellFormed
  | .washRecoveryExpiry n => (PointId.wash n).wellFormed
  | .entryTimerExpiry f => fleetInRange f
  | .releaseLapseExpiry f => fleetInRange f
  | .islandSelection n => (PointId.island n).wellFormed
  | .washSelection n => (PointId.wash n).wellFormed
  | .roundPollAnswer w => w.wellFormed
  | .commandAnswer w => w.wellFormed
  | .askAnswer w => w.wellFormed
  | .pinResetAssert | .pinReset | .replyFrameBegin | .noticeFrameBegin | .frameSent | .unknownKind
  | .laneDefine | .laneDefineRemove | .pointDefine | .pointDefineRemove | .stationDefine
  | .stationDefineRemove | .layoutCommit | .timingSet | .clockSet | .statusQuery | .yardReset
  | .clockAdvance | .dayRollover | .busEnrol | .busSet | .busQueryRecord | .busQueryList
  | .busWithdraw | .planWrite | .planRead | .planStart | .planResume | .planAbort
  | .turnQueryQueue | .turnQueryPoints | .pointClose | .pointOpen | .frostSetOn | .frostSetOff
  | .laneQueryLane | .laneQueryWaits | .laneHold | .laneUnhold | .laneClose | .laneOpen
  | .laneForce | .laneSet | .shunt | .slotAdd | .slotRemove | .slotMove | .pulloutStart
  | .pulloutStop | .departQuery | .lineAsk | .lineRestart | .stationQuery | .noticeMap
  | .noticeEnable | .noticeTally | .echo | .supervisionExpiry | .pacingExpiry
  | .roundTimerExpiry _ | .lineGrant | .lineIdleWaitEnd => true

end Sys2Proof
end

