-- ==== Sys2Proof/Safety.lean ====
section
/-!
DEFINITION. The vocabulary of the statements: what it is for a request to be waiting and to be answered, and the invariants the
statements claim.
-/
namespace Sys2Proof.Machine

/-! ### Requests and replies -/

/-- The part may take a request, and the oldest WAITING one has this body (R182). -/
def State.Takes (s : State) (body : List Byte) : Prop := s.front? = some body

/-- A change of the yard's records alone. -/
def State.withYard (s : State) (y : Yard) : State := { s with yard := y }

/-- The request is answered: its entry is ANSWERED and its reply waits, last of all; nothing else changes (R182, R184). -/
def State.reply (s : State) (body : List Byte) (r : Result) (data : List Byte) : State :=
  { s with
    link :=
      { s.link with
        requests := markAnswered s.link.requests
        replies := s.link.replies ++
          [{ body := [body.getD 0 0 ||| 0x80#8, body.getD 1 0, BitVec.ofNat 8 r.code] ++ data, busy := false }] } }

/-- A request body: its kind, its tag, its fields. -/
def request (kind : Nat) (tag : Byte) (fields : List Byte) : List Byte := BitVec.ofNat 8 kind :: tag :: fields

/-- The rows that take requests, each with what it takes and does (Table 11-6). -/
def requestOf : Instr → Option Request
  | .unknownKind => some unknownKindRequest | .echo => some echoRequest
  | .laneDefine => some laneDefineRequest | .laneDefineRemove => some laneDefineRemoveRequest
  | .pointDefine => some pointDefineRequest | .pointDefineRemove => some pointDefineRemoveRequest
  | .stationDefine => some stationDefineRequest | .stationDefineRemove => some stationDefineRemoveRequest
  | .layoutCommit => some layoutCommitRequest | .timingSet => some timingSetRequest
  | .clockSet => some clockSetRequest | .statusQuery => some statusQueryRequest
  | .yardReset => some yardResetRequest | .busEnrol => some busEnrolRequest | .busSet => some busSetRequest
  | .busQueryRecord => some busQueryRecordRequest | .busQueryList => some busQueryListRequest
  | .busWithdraw => some busWithdrawRequest | .planWrite => some planWriteRequest
  | .planRead => some planReadRequest | .planStart => some planStartRequest
  | .planResume => some planResumeRequest | .planAbort => some planAbortRequest
  | .turnQueryQueue => some turnQueryQueueRequest | .turnQueryPoints => some turnQueryPointsRequest
  | .pointClose => some pointCloseRequest | .pointOpen => some pointOpenRequest
  | .frostSetOn => some frostSetOnRequest | .frostSetOff => some frostSetOffRequest
  | .laneQueryLane => some laneQueryLaneRequest | .laneQueryWaits => some laneQueryWaitsRequest
  | .laneHold => some laneHoldRequest | .laneUnhold => some laneUnholdRequest
  | .laneClose => some laneCloseRequest | .laneOpen => some laneOpenRequest
  | .laneForce => some laneForceRequest | .laneSet => some laneSetRequest | .shunt => some shuntRequest
  | .slotAdd => some slotAddRequest | .slotRemove => some slotRemoveRequest | .slotMove => some slotMoveRequest
  | .pulloutStart => some pulloutStartRequest | .pulloutStop => some pulloutStopRequest
  | .departQuery => some departQueryRequest | .lineAsk => some lineAskRequest
  | .lineRestart => some lineRestartRequest | .stationQuery => some stationQueryRequest
  | .noticeMap => some noticeMapRequest | .noticeEnable => some noticeEnableRequest
  | .noticeTally => some noticeTallyRequest
  | .pinResetAssert | .pinReset | .hostFrame _ | .frameError _ _ | .characterGapTimeout _ | .replyFrameBegin
  | .noticeFrameBegin | .frameSent | .clockAdvance | .dayRollover | .supervisionExpiry | .holdExpiry _
  | .callTimerExpiry _ | .islandRecoveryExpiry _ | .washRecoveryExpiry _ | .entryTimerExpiry _
  | .releaseLapseExpiry _ | .pacingExpiry | .roundTimerExpiry _ | .islandSelection _ | .washSelection _
  | .lineGrant | .lineIdleWaitEnd | .roundPollAnswer _ | .commandAnswer _ | .askAnswer _ => none

/-- Kinds that RUNNING refuses: the layout requests (Table 1-2). -/
def layoutKinds : List Nat := [0x01, 0x02, 0x03, 0x04]

/-- Kinds that UNCONFIGURED refuses (Table 1-2). -/
def runningKinds : List Nat :=
  [0x1A, 0x1B, 0x1C, 0x20, 0x21, 0x22, 0x24, 0x28, 0x29, 0x2A, 0x2B, 0x2C, 0x2D, 0x2E, 0x2F, 0x30, 0x31, 0x32, 0x33,
   0x34, 0x35]

/-- Table 1-2: the yard mode accepts requests of the kind. -/
def acceptedIn (m : YardMode) (kind : Nat) : Prop :=
  match m with
  | .unconfigured => kind ∉ runningKinds
  | .running => kind ∉ layoutKinds

/-- The notice unit's contents in their ranges (R172, R175, R177, R178). -/
def Notices.InForm (u : Notices) : Prop :=
  u.classes.length = 42 ∧ (∀ c ∈ u.classes, c ≤ 3) ∧ u.tallies.length = 42 ∧ (∀ t ∈ u.tallies, t ≤ 65535)
    ∧ u.queue.length ≤ 32 ∧ u.lost ≤ 255

/-- The request is one of those a bus number starts: a fleet number in range. -/
def fleetValid (f : Word) : Prop := 1 ≤ f.toNat ∧ f.toNat ≤ 9999

/-- Refused: the reply names the result, and nothing else changes. -/
def Refused (c : Instr) (s : State) (body : List Byte) (r : Result) : Prop := exec c s = .next (s.reply body r [])

/-- Taken: the reply is OK with this data, and the state changes to `t` but for the reply. -/
def Taken (c : Instr) (s t : State) (body : List Byte) (data : List Byte) : Prop := exec c s = .next (t.reply body .ok data)

/-! ### Lookups -/

/-- The lane definition of a number. -/
def Layout.lane? (l : Layout) (n : Nat) : Option LaneDef := l.lanes.find? (fun d => d.number == n)

/-- The point definition of a point. -/
def Layout.point? (l : Layout) (p : PointId) : Option PointDef := l.points.find? (fun d => d.id == p)

/-- Order of points: islands before wash lanes, each by number. -/
def PointId.Before : PointId → PointId → Prop
  | .island m, .island n => m < n
  | .island _, .wash _ => True
  | .wash _, .island _ => False
  | .wash m, .wash n => m < n

/-- Lane numbers of the part in rising order: none stands twice. -/
def LanesRising (numbers : List Nat) : Prop := numbers.Pairwise (· < ·) ∧ ∀ n ∈ numbers, 1 ≤ n ∧ n ≤ 24

/-- Points of the part in their order: none stands twice. -/
def PointsRising (ids : List PointId) : Prop := ids.Pairwise PointId.Before ∧ ∀ p ∈ ids, p.wellFormed = true

/-- Lane definitions in rising order of number. -/
def Layout.lanesRising (l : Layout) : Prop := LanesRising (l.lanes.map LaneDef.number)

/-- Point definitions in their order. -/
def Layout.pointsRising (l : Layout) : Prop := PointsRising (l.points.map PointDef.id)

/-- Rising addresses: no address stands twice. -/
def Layout.stationsRising (l : Layout) : Prop := (l.stations.map StationDef.address).Pairwise (· < ·)

/-! ### Commit -/

/-- Exactly one GATE station is defined (Table 1-4 check 1). -/
def Layout.OneGate (l : Layout) : Prop := (l.stations.filter (fun t => t.kind == .gate)).length = 1

/-- The object names a defined station (check 2). -/
def Layout.Named (l : Layout) (d : Demand) : Prop := (l.station? d.station).isSome

/-- The station it names is of the matching kind (check 3). -/
def Layout.Matching (l : Layout) (d : Demand) : Prop := (l.station? d.station).map StationDef.kind = some d.kind

/-- No two lanes or points name the station (check 4). -/
def Layout.Unshared (l : Layout) (t : StationDef) : Prop := l.users t.address ≤ 1

/-- A LOOP, ISLAND or WASH station is named (check 5). -/
def Layout.Used (l : Layout) (t : StationDef) : Prop := t.kind = .gate ∨ l.users t.address ≠ 0

/-- The capacities total at most 192 places (check 6). -/
def Layout.Fits (l : Layout) : Prop := (l.lanes.map LaneDef.capacity).sum ≤ 192

/-- The first of a list that lacks a property. -/
def FirstWithout {α : Type} (P : α → Prop) (l : List α) (x : α) : Prop :=
  ∃ before after, l = before ++ x :: after ∧ (∀ y ∈ before, P y) ∧ ¬ P x

/-- Seconds run off a timer that runs; 0 is the least. -/
def Timer.run (n : Nat) (t : Timer) : Timer := t.map (fun left => left - n)

/-! ### The fleet and its plans -/

/-- The plan waits NONE, ENDED and FAULTED. -/
def PlanWait.Idle (w : PlanWait) : Prop := w = .noPlan ∨ w = .ended ∨ w = .faulted

/-- OUTSIDE or LOOSE. -/
def Position.Free (p : Position) : Prop := p = .outside ∨ p = .loose

/-- No report of a notice of these kinds: their tallies stand. -/
def SilentOn (kinds : List NoticeKind) (y z : Yard) : Prop :=
  ∀ k ∈ kinds, z.notices.tallies.getD (k.num - 1) 0 = y.notices.tallies.getD (k.num - 1) 0

/-- A plan fault (R40): FAULTED with its cause and cursor, the stack and repeat count as they stand, and PLAN_FAULT posted. -/
def Yard.faulted (e : Env) (f : Nat) (cause : FaultCause) (cursor : Nat) (y : Yard) : Yard :=
  (y.setBus f (fun b => { b with wait := .faulted, fault := some cause, cursor := some cursor })).post e .planFault f none
    cause.code cursor

/-- Steps that Table 3-1 holds. -/
def Step.InRange : Step → Prop
  | .wash p => 1 ≤ p ∧ p ≤ 4
  | .park (some n) => 1 ≤ n ∧ n ≤ 24
  | .hold m => 1 ≤ m ∧ m ≤ 120
  | .rep c => c ≤ 15
  | .test (.slotBefore m) a => m ≤ 1439 ∧ a ≤ 511
  | .test _ a => a ≤ 511
  | .jump a => a ≤ 511
  | .call a => a ≤ 511
  | .note c => c ≤ 255
  | .fuel | .park none | .ret | .finish _ => True

/-! ### Invariants -/

/-- List order of R122: by slot minute, among equals by added mark. -/
def Departure.Before (a b : Departure) : Prop := a.slot < b.slot ∨ (a.slot = b.slot ∧ a.mark < b.mark)

/-- The bounds a bus record keeps (Table 2-1, R27, R30). -/
structure Bus.Bounded (p : Params) (b : Bus) : Prop where
  age : b.age ≤ p.sightingReload
  missedCalls : b.missedCalls ≤ 3
  fuelTaken : b.fuelTaken ≤ 9999

/-- The bounds and the order the yard's records keep whatever is taken (R7, R15, R27, R30, R56, R122, R157, R175, R178). -/
structure Yard.Bounded (p : Params) (y : Yard) : Prop where
  mapRising : (y.fleet.map Bus.fleet).Pairwise (· < ·)
  records : y.fleet.length ≤ 192
  buses : ∀ b ∈ y.fleet, b.Bounded p
  pool : y.poolUsed ≤ 48
  notices : y.notices.InForm
  listOrder : y.departures.Pairwise Departure.Before
  oneEntry : (y.departures.map Departure.bus).Nodup
  linked : ∀ d ∈ y.departures, d.bus ∈ y.fleet.map Bus.fleet
  lanesRising : LanesRising (y.lanes.map Lane.number)
  pointsRising : PointsRising (y.points.map Point.id)
  stationsRising : (y.stations.map Station.address).Pairwise (· < ·)

/-- The parameters lie in the ranges of Table 1-5. -/
def Params.InRange (p : Params) : Prop :=
  ∀ i, i < 13 → paramOk (i + 1) (p.values.getD i 0) = true

/-- The clock is a clock second (R10), the parameters are in range (R8), and the plan store is in its canonical form. -/
def Env.Bounded (e : Env) : Prop := e.clock ≤ 86399 ∧ e.params.InRange ∧ e.plan.wf = true

/-- An ANSWERED entry for each waiting reply of a taken request; the request queue, the BUSY replies and the frame error
tally within their limits (R180, R182). -/
structure Link.Bounded (l : Link) : Prop where
  requests : l.requests.length ≤ 4
  busy : l.busyWaiting ≤ 8
  tally : l.frameErrors ≤ 65535
  oneReplyEach : (l.requests.filter RequestEntry.answered).length = (l.replies.filter (fun r => !r.busy)).length

/-- The group's addresses are a prefix of at most six bits (9.3). -/
def Group.Valid (g : Group) : Prop := g.len ≤ 6 ∧ g.bits < 2 ^ g.len

/-- No address of 0-63 lies in both groups. -/
def Group.Disjoint (g h : Group) : Prop := ∀ a, a < 64 → ¬ (g.contains a = true ∧ h.contains a = true)

/-- Below a group of some prefix length, the groups still to poll have strictly smaller lengths (R162). -/
def stackBelow : Nat → List Group → Prop
  | _, [] => True
  | n, g :: rest => 1 ≤ g.len ∧ g.len ≤ n ∧ stackBelow (g.len - 1) rest

/-- The shape of the group stack: its top, then groups of prefix lengths that fall strictly from the top's on (R162, R165). -/
def stackShape : List Group → Prop
  | [] => True
  | g :: rest => stackBelow g.len rest

/-- The round engine is sound (R162): valid, pairwise disjoint groups of the shape splitting gives; empty when IDLE. -/
structure Rounds.Sound (r : Rounds) : Prop where
  valid : ∀ g ∈ r.stack, g.Valid
  disjoint : r.stack.Pairwise Group.Disjoint
  shape : stackShape r.stack
  room : r.stack.length ≤ 7
  idleEmpty : r.active = none → r.stack = []

/-- Every invariant at once. -/
structure State.Sound (s : State) : Prop where
  env : s.env.Bounded
  yard : s.yard.Bounded s.env.params
  link : s.link.Bounded
  rounds : s.rounds.Sound
  lanes : s.layout.lanesRising
  points : s.layout.pointsRising
  stations : s.layout.stationsRising

end Sys2Proof.Machine
end

