-- ==== Sys2Proof/Certificates/Slice0/Obligations.lean ====
section
/-!
DEFINITION. The statements about the DY410 model, each a proposition a prover settles. A request body is written `request kind tag fields`;
`s.Takes body` says the request stands oldest WAITING in a part that may take it; `t.reply body r data` is `t` with that request
answered.
-/

open Sys2Proof Sys2Proof.Machine

/-! ### Steps, resets, the host link -/

/-- The front command is executed on the state with the queue's rest. With the queue empty a master frame being sent ends, YLDE lowered,
and nothing else changes: R143's lowering is the spec's, its place in a step on the empty queue the model's choice (logs 3, 10). -/
def Obligations.StepTakesTheFrontCommand : Prop :=
  (∀ (s : State) (c : Instr) (rest : List Instr), s.pending = c :: rest → step s = exec c { s with pending := rest }) ∧
    (∀ s : State, s.pending = [] → step s = .next { s with line := { s.line with ylde := false } })

/-- The values a pin reset gives (R13, R32, R33, R55, R79, R95, R102, R121, R142, R159, R171, R172, R179, Tables 1-7 and 11-3). No request
is taken before RESET_DONE has begun. -/
def Obligations.ResetValues : Prop :=
  State.reset.rstnLow = false ∧ State.reset.mode = .unconfigured ∧ State.reset.runl = false ∧ State.reset.env.clock = 0 ∧
  State.reset.env.params.values = [6, 10, 3, 40, 2, 3, 240, 0, 4, 8, 5, 250, 2] ∧
  (∀ a, State.reset.env.plan.read a = none) ∧
  State.reset.layout = { lanes := [], points := [], stations := [] } ∧
  State.reset.yard.fleet = [] ∧ State.reset.yard.supTimer = some (4 * 60) ∧ State.reset.yard.pool = [] ∧
  State.reset.yard.points = [] ∧ State.reset.yard.frost = false ∧ State.reset.yard.lanes = [] ∧
  State.reset.yard.waits = [] ∧ State.reset.yard.departures = [] ∧ State.reset.yard.pullout = false ∧
  State.reset.yard.pacing = none ∧ State.reset.yard.stations = [] ∧ State.reset.yard.cmdQueue = [] ∧
  State.reset.yard.inFlight = none ∧ State.reset.yard.notices.classes = List.replicate 42 1 ∧
  State.reset.yard.notices.enableBytes = [1, 0, 0] ∧ State.reset.yard.notices.lost = 0 ∧
  State.reset.yard.notices.tallies = 1 :: List.replicate 41 0 ∧
  State.reset.yard.notices.queue =
    [{ kind := .resetDone, cls := 1, lost := 0, time := 0, fleet := 0, place := none, code := 1, quantity := 0 }] ∧
  State.reset.line.phase = .free ∧ State.reset.line.holder = none ∧ State.reset.line.ylde = false ∧ State.reset.line.asks = [] ∧
  State.reset.rounds.active = none ∧ State.reset.rounds.stack = [] ∧ State.reset.rounds.count = 0 ∧
  State.reset.rounds.garbles = 0 ∧ State.reset.rounds.urgentDue = false ∧ State.reset.rounds.routineDue = false ∧
  State.reset.rounds.urgentTimer = none ∧ State.reset.rounds.routineTimer = none ∧
  State.reset.link.framer = .hunt ∧ State.reset.link.frameErrors = 0 ∧ State.reset.link.requests = [] ∧
  State.reset.link.replies = [] ∧ State.reset.link.sending = none ∧ State.reset.link.awaitResetDone = true

/-- RSTN low: RUNL is dark, nothing is sent on the host link, YLDE is low, and everything else stands (log 6); until the release no command
changes anything. The release gives the reset values, the model's own queue apart (log 7). RUNL is lit exactly while the mode is RUNNING
and RSTN is not low (R1). -/
def Obligations.PinReset : Prop :=
  (∀ s : State,
    let t : State :=
      { s with
        rstnLow := true
        link := { s.link with sending := none }
        line := { s.line with holder := none, phase := .free, ylde := false } }
    exec .pinResetAssert s = .next t ∧ t.runl = false) ∧
  (∀ (s : State) (c : Instr), s.rstnLow = true → c ≠ .pinReset → c ≠ .pinResetAssert → exec c s = .next s) ∧
  (∀ s : State, exec .pinReset s =
    .next { State.reset with pending := s.pending }) ∧
  (∀ s : State, s.runl = true ↔ s.mode = .running ∧ s.rstnLow = false)

/-- A whole frame with a good check: room in the request queue, no room but room for a BUSY reply, and neither (R180, R182). -/
def Obligations.HostFrameDelivered : Prop :=
  ∀ (s : State) (body : List Byte), s.rstnLow = false → s.link.framer = .hunt → 2 ≤ body.length → body.length ≤ 240 →
    exec (.hostFrame (hostFrameOf body)) s =
      .next (
        if s.link.requests.length < 4 then
          { s with link := { s.link with requests := s.link.requests ++ [{ body, answered := false }] } }
        else if (s.link.replies.filter WaitingReply.busy).length < 8 then
          { s with
            link :=
              { s.link with
                replies := s.link.replies ++
                  [{ body := [body.getD 0 0 ||| 0x80#8, body.getD 1 0, 9#8], busy := true }] } }
        else { s with link := { s.link with frameErrors := min 65535 (s.link.frameErrors + 1) } })

/-- Frame errors of R180: outside HUNT a framing error or a gap, for the framer as the characters before it leave it; a bad length; a check
that does not agree. In HUNT neither a framing error nor a gap counts, and no byte but 0xA5 does anything; a part of a frame leaves the
framer outside HUNT and nothing else changed. The check itself (R181): preset to all ones, each byte fed most significant bit first with the
polynomial x^16 + x^12 + x^5 + 1, not inverted, 0x29B1 over "123456789"; and the frames of both links, which end with it, high byte first.
-/
def Obligations.FrameErrors : Prop :=
  (crc16 [] = 0xFFFF#16 ∧
    (∀ (bytes : List Byte) (b : Byte),
      crc16 (bytes ++ [b]) =
        (List.range 8).foldl (fun c _ => if c.getLsbD 15 then (c <<< 1) ^^^ 0x1021#16 else c <<< 1)
          (crc16 bytes ^^^ (b.setWidth 16 <<< 8))) ∧
    crc16 [0x31, 0x32, 0x33, 0x34, 0x35, 0x36, 0x37, 0x38, 0x39] = 0x29B1#16 ∧
    (∀ c : Word, crcBytes c = [c.extractLsb' 8 8, c.extractLsb' 0 8]) ∧
    (∀ body : List Byte,
      let covered : List Byte := BitVec.ofNat 8 body.length :: body
      hostFrameOf body = 0xA5#8 :: (covered ++ crcBytes (crc16 covered))) ∧
    (∀ fields : List Byte, lineFrame fields = fields ++ crcBytes (crc16 fields))) ∧
  ∀ s : State, s.rstnLow = false →
    let counted : Host.Outcome State Fault Refusal :=
      .next { s with link := { s.link with framer := .hunt, frameErrors := min 65535 (s.link.frameErrors + 1) } }
    (s.link.framer ≠ .hunt → exec (.frameError [] true) s = counted ∧ exec (.characterGapTimeout []) s = counted) ∧
    (∀ bytes : List Byte, ∃ t : State, exec (.hostFrame bytes) s = .next t ∧
      exec (.frameError bytes true) s = exec (.frameError [] true) t ∧
      exec (.characterGapTimeout bytes) s = exec (.characterGapTimeout []) t) ∧
    (s.link.framer = .hunt → exec (.frameError [] true) s = .next s ∧ exec (.characterGapTimeout []) s = .next s ∧
      (∀ bytes : List Byte, 0xA5#8 ∉ bytes → exec (.hostFrame bytes) s = .next s) ∧
      (∀ (body : List Byte) (received : Nat), 2 ≤ body.length → body.length ≤ 240 →
        1 ≤ received → received < (hostFrameOf body).length →
        ∃ framer : Framer, framer ≠ .hunt ∧
          exec (.hostFrame ((hostFrameOf body).take received)) s = .next { s with link := { s.link with framer } }) ∧
      (∀ n : Byte, n.toNat < 2 ∨ 240 < n.toNat → exec (.frameError [0xA5#8, n] false) s = counted) ∧
      (∀ (body : List Byte) (high low : Byte), 2 ≤ body.length → body.length ≤ 240 →
        [high, low] ≠ crcBytes (crc16 (BitVec.ofNat 8 body.length :: body)) →
        exec (.frameError (0xA5#8 :: BitVec.ofNat 8 body.length :: (body ++ [high, low])) false) s = counted))

/-- The transmitter (R185, R177): busy it begins nothing; idle it begins the oldest reply and frees that request's entry, a notice
only when no reply waits; before RESET_DONE it begins no reply; a frame sent leaves it idle. The 15 bytes of a notice (Tables 10-1, 11-5).
That a begin which the transmitter may not make changes nothing is the model's choice (log 1). -/
def Obligations.TransmitterOrder : Prop :=
  (∀ n : Notice,
    let byte (v : Nat) : Byte := BitVec.ofNat 8 v
    let kinds : List NoticeKind :=
      [.resetDone, .dayRolled, .busArrived, .unknownBus, .positionCorrected, .sightLost, .noPlan, .planNote, .planEnded, .planFault,
       .planStalled, .turnCalled, .turnDone, .turnTakenOver, .wrongBus, .callMissed, .pointFault, .pointDown, .pointUp,
       .berthAssigned, .noBerth, .parked, .mispark, .unplannedEntry, .entryLapsed, .laneMismatch, .laneOverfull, .laneDisorder,
       .unsanctionedExit, .released, .departed, .swapped, .headBlocked, .releaseLapsed, .releaseWithdrawn, .unscheduledExit,
       .missedSlot, .stationLost, .stationBack, .roundCut, .askResult, .lineRestarted]
    let place : List Byte :=
      match n.place with
      | none => [0, 0]
      | some (.lane k) => [1, byte k]
      | some (.point (.island k)) => [2, byte k]
      | some (.point (.wash k)) => [3, byte k]
    n.body =
      [0x40, 0, byte (kinds.idxOf n.kind + 1), byte n.cls, byte n.lost, byte (n.time / 65536), byte (n.time / 256), byte n.time,
       byte (n.fleet / 256), byte n.fleet] ++ place ++ [byte n.code, byte (n.quantity / 256), byte n.quantity]) ∧
  ∀ s : State, s.rstnLow = false →
    exec .frameSent s = .next { s with link := { s.link with sending := none } } ∧
    (s.link.sending.isSome → exec .replyFrameBegin s = .next s ∧ exec .noticeFrameBegin s = .next s) ∧
    (s.link.sending = none →
      (s.link.replies = [] ∨ s.link.awaitResetDone = true → exec .replyFrameBegin s = .next s) ∧
      (∀ r rest, s.link.replies = r :: rest → s.link.awaitResetDone = false →
        exec .noticeFrameBegin s = .next s ∧
        exec .replyFrameBegin s =
          .next { s with
            link :=
              { s.link with
                sending := some (hostFrameOf r.body)
                replies := rest
                requests := if r.busy then s.link.requests else s.link.requests.eraseP RequestEntry.answered } }) ∧
      (s.yard.notices.queue = [] → exec .noticeFrameBegin s = .next s) ∧
      (∀ n rest, s.yard.notices.queue = n :: rest → s.link.replies = [] ∨ s.link.awaitResetDone = true →
        exec .noticeFrameBegin s =
          .next { s with
            link := { s.link with sending := some (hostFrameOf n.body), awaitResetDone := false }
            yard := { s.yard with notices := { s.yard.notices with queue := rest } } }))

/-- R13, R182 to R184: of the rows that take requests exactly one takes the oldest WAITING request, and it queues exactly one reply and
makes that entry ANSWERED; a refusal changes nothing else and carries no data, but for a LAYOUT_COMMIT's. No request is taken before
RESET_DONE has begun, with none WAITING, or while RSTN is low. That a row which may take none, or takes another request, or another kind's,
leaves the state alone is the model's choice (logs 1, 2). -/
def Obligations.EveryTakenRequestGetsOneReply : Prop :=
  (∀ (s : State) (body : List Byte), s.Takes body →
    ∃ c : Instr, (requestOf c).isSome ∧
      (∃ (t : State) (r : Result) (data : List Byte), exec c s = .next (t.reply body r data) ∧
        (r ≠ .ok → t = s ∧ (data = [] ∨ c = .layoutCommit)) ∧
        (r = .ok → t.link.requests = s.link.requests ∧ t.link.replies = s.link.replies)) ∧
      ∀ d : Instr, (requestOf d).isSome → d ≠ c → exec d s = .next s) ∧
  (∀ (s : State) (answered : List RequestEntry) (body : List Byte) (rest : List RequestEntry),
    (∀ r ∈ answered, r.answered = true) → s.link.requests = answered ++ { body, answered := false } :: rest →
    s.rstnLow = false → s.link.awaitResetDone = false →
    s.Takes body ∧
      ∀ (r : Result) (data : List Byte),
        (s.reply body r data).link.requests = answered ++ { body, answered := true } :: rest) ∧
  (∀ s : State, s.rstnLow = true ∨ s.link.awaitResetDone = true ∨ (∀ r ∈ s.link.requests, r.answered = true) →
    (∀ body, ¬ s.Takes body) ∧ ∀ c : Instr, (requestOf c).isSome → exec c s = .next s)

/-- The stages of a taking (R183, R2): a kind Table 11-6 does not have is answered UNKNOWN_KIND; a body of its row's kind whose length
is not that of the kind's layout is answered BAD_LENGTH; one that passes, in a mode that Table 1-2 does not accept, WRONG_MODE; any
other goes to its owner. The lengths are those of 11.6's widths (log 16, deduced); a list stands as kind, offset of its count byte,
bytes of an item, least and greatest count. -/
def Obligations.StagesOfTaking : Prop :=
  ∀ (s : State) (body : List Byte), s.Takes body →
    let kind := (body.getD 0 0).toNat
    let first := (body.getD 2 0).toNat
    let chosen (n0 n1 : Nat) : List Nat := if first = 0 then [n0] else if first = 1 then [n1] else [n0, n1]
    let fixed : List (List Nat × List Nat) :=
      [([0x04, 0x07, 0x08, 0x33, 0x34, 0x39, 0x3E], [2]), ([0x24, 0x29, 0x2A, 0x2B, 0x2C, 0x35, 0x3A], [3]),
       ([0x13, 0x1B, 0x1C, 0x21, 0x22, 0x28, 0x31], [4]), ([0x06, 0x12, 0x19, 0x2F, 0x3D], [5]), ([0x1A, 0x30, 0x32], [6]),
       ([0x2D, 0x38], [7]), ([0x10], [9]), ([0x01], chosen 8 4), ([0x02], chosen 7 5), ([0x03], chosen 5 4),
       ([0x20], chosen 5 3), ([0x3F], List.range' 2 238)]
    let lists : List (Nat × Nat × Nat × Nat × Nat) :=
      [(0x05, 2, 3, 1, 13), (0x11, 4, 3, 1, 6), (0x18, 4, 6, 1, 16), (0x2E, 3, 2, 0, 255), (0x3C, 2, 2, 0, 42)]
    let fits : Prop :=
      (∃ r ∈ fixed, kind ∈ r.1 ∧ body.length ∈ r.2) ∨
        ∃ r ∈ lists, match r with
          | (k, at_, size, low, high) =>
            let count := (body.getD at_ 0).toNat
            kind = k ∧ low ≤ count ∧ count ≤ high ∧ body.length = at_ + 1 + size * count
    (kind ∉ requestKinds → exec .unknownKind s = .next (s.reply body .unknownKind [])) ∧
    (kind ∈ requestKinds →
      ∀ (c : Instr) (q : Request), requestOf c = some q → q.takes body = true →
        (¬ fits → exec c s = .next (s.reply body .badLength [])) ∧
        (fits → ¬ acceptedIn s.mode kind → exec c s = .next (s.reply body .wrongMode [])) ∧
        (fits → acceptedIn s.mode kind →
          ∃ (t : State) (r : Result) (data : List Byte), exec c s = .next (t.reply body r data) ∧
            r ∉ [.unknownKind, .badLength, .wrongMode]))

/-- R186. -/
def Obligations.EchoReturnsItsData : Prop :=
  ∀ (s : State) (tag : Byte) (data : List Byte), s.Takes (request 0x3F tag data) →
    exec .echo s =
      .next (if data.length ≤ 237 then s.reply (request 0x3F tag data) .ok data
        else s.reply (request 0x3F tag data) .badLength [])

/-! ### Layout definitions and commit -/

/-- R3. LANE_DEFINE with each action; a definition is found under its number afterwards, every other one as before, and definitions in
rising order of number stay so: the order in which R6 checks and R7 builds them. -/
def Obligations.LaneDefinitions : Prop :=
  ∀ (s : State) (tag : Byte), s.mode = .unconfigured →
    (∀ number kind capacity gas station : Byte,
      let body := request 0x01 tag [0#8, number, kind, capacity, gas, station]
      let inRange := 1 ≤ number.toNat ∧ number.toNat ≤ 24 ∧ kind.toNat ≤ 1 ∧ 2 ≤ capacity.toNat ∧ capacity.toNat ≤ 12 ∧
        gas.toNat ≤ 1 ∧ 1 ≤ station.toNat ∧ station.toNat ≤ 63
      let definition : LaneDef :=
        { number := number.toNat, kind := if kind.toNat = 0 then .through else .blind, capacity := capacity.toNat,
          gas := gas.toNat == 1, station := station.toNat }
      s.Takes body →
      (¬ inRange → exec .laneDefine s = .next (s.reply body .badValue [])) ∧
      (inRange →
        ∃ lanes : List LaneDef,
          exec .laneDefine s = .next (({ s with layout := { s.layout with lanes } } : State).reply body .ok []) ∧
          (∀ n, ({ s.layout with lanes } : Layout).lane? n =
            if n = number.toNat then some definition else s.layout.lane? n) ∧
          (s.layout.lanesRising → ({ s.layout with lanes } : Layout).lanesRising))) ∧
    (∀ number : Byte,
      let body := request 0x01 tag [1#8, number]
      s.Takes body →
      exec .laneDefineRemove s = .next (
        if number.toNat < 1 ∨ 24 < number.toNat then s.reply body .badValue []
        else if (s.layout.lane? number.toNat).isNone then s.reply body .notFound []
        else
          ({ s with
            layout :=
              { s.layout with lanes := s.layout.lanes.filter (fun d => d.number != number.toNat) } } : State).reply body .ok [])) ∧
    (∀ (action : Byte) (fields : List Byte),
      let body := request 0x01 tag (action :: fields)
      2 ≤ action.toNat → fields.length = 5 ∨ fields.length = 1 → s.Takes body →
      exec .laneDefine s = .next (s.reply body .badValue []))

/-- R4. POINT_DEFINE with each action: point kind 2 is ISLAND, 3 WASH (11.6); offers 255 is absent. Definitions in their order, islands
before wash lanes, stay so: the order in which R6 checks and R7 builds them. -/
def Obligations.PointDefinitions : Prop :=
  ∀ (s : State) (tag : Byte), s.mode = .unconfigured →
    (∀ kind number offers station : Byte,
      let body := request 0x02 tag [0#8, kind, number, offers, station]
      let island := kind.toNat = 2 ∧ 1 ≤ number.toNat ∧ number.toNat ≤ 4 ∧ offers.toNat ≤ 2
      let wash := kind.toNat = 3 ∧ 1 ≤ number.toNat ∧ number.toNat ≤ 2 ∧ offers.toNat = 255
      let inRange := (island ∨ wash) ∧ 1 ≤ station.toNat ∧ station.toNat ≤ 63
      let definition : PointDef :=
        if kind.toNat = 2 then
          { id := .island number.toNat, station := station.toNat
            offers := some (if offers.toNat = 0 then .diesel else if offers.toNat = 1 then .gas else .both) }
        else { id := .wash number.toNat, station := station.toNat, offers := none }
      s.Takes body →
      (¬ inRange → exec .pointDefine s = .next (s.reply body .badValue [])) ∧
      (inRange →
        ∃ points : List PointDef,
          exec .pointDefine s = .next (({ s with layout := { s.layout with points } } : State).reply body .ok []) ∧
          (∀ p : PointId, p.wellFormed →
            ({ s.layout with points } : Layout).point? p =
              if p = definition.id then some definition else s.layout.point? p) ∧
          (s.layout.pointsRising → ({ s.layout with points } : Layout).pointsRising))) ∧
    (∀ kind number : Byte,
      let body := request 0x02 tag [1#8, kind, number]
      let named : Option PointId :=
        if kind.toNat = 2 ∧ 1 ≤ number.toNat ∧ number.toNat ≤ 4 then some (.island number.toNat)
        else if kind.toNat = 3 ∧ 1 ≤ number.toNat ∧ number.toNat ≤ 2 then some (.wash number.toNat)
        else none
      s.Takes body →
      (named = none → exec .pointDefineRemove s = .next (s.reply body .badValue [])) ∧
      (∀ p, named = some p →
        exec .pointDefineRemove s = .next (
          if (s.layout.point? p).isNone then s.reply body .notFound []
          else
            ({ s with layout := { s.layout with points := s.layout.points.filter (fun d => d.id != p) } } : State).reply
              body .ok []))) ∧
    (∀ (action : Byte) (fields : List Byte),
      let body := request 0x02 tag (action :: fields)
      2 ≤ action.toNat → fields.length = 4 ∨ fields.length = 2 → s.Takes body →
      exec .pointDefine s = .next (s.reply body .badValue []))

/-- R5. STATION_DEFINE with each action; `others` are the stations of the kind that a definition leaves standing. The codes of a station's
kind, 1 to 4, are deduced: R5 gives none, and the model takes Table 8-6's (log 18). -/
def Obligations.StationDefinitions : Prop :=
  ∀ (s : State) (tag : Byte), s.mode = .unconfigured → s.layout.stationsRising →
    (∀ (address code : Byte) (kind : StationKind) (limit : Nat),
      let body := request 0x03 tag [0#8, address, code]
      let others := s.layout.stations.filter (fun d => d.address ≠ address.toNat ∧ d.kind = kind)
      (code.toNat, kind, limit) ∈ [(1, .gate, 1), (2, .loop, 24), (3, .island, 4), (4, .wash, 2)] →
      1 ≤ address.toNat → address.toNat ≤ 63 → s.Takes body →
      (limit ≤ others.length → exec .stationDefine s = .next (s.reply body .noRoom [])) ∧
      (others.length < limit →
        ∃ stations : List StationDef,
          exec .stationDefine s = .next (({ s with layout := { s.layout with stations } } : State).reply body .ok []) ∧
          ({ s.layout with stations } : Layout).stationsRising ∧
          ∀ a, ({ s.layout with stations } : Layout).station? a =
            if a = address.toNat then some { address := address.toNat, kind } else s.layout.station? a)) ∧
    (∀ address code : Byte,
      let body := request 0x03 tag [0#8, address, code]
      address.toNat < 1 ∨ 63 < address.toNat ∨ code.toNat < 1 ∨ 4 < code.toNat → s.Takes body →
      exec .stationDefine s = .next (s.reply body .badValue [])) ∧
    (∀ address : Byte,
      let body := request 0x03 tag [1#8, address]
      s.Takes body →
      exec .stationDefineRemove s = .next (
        if address.toNat < 1 ∨ 63 < address.toNat then s.reply body .badValue []
        else if (s.layout.station? address.toNat).isNone then s.reply body .notFound []
        else
          ({ s with
            layout :=
              { s.layout with
                stations := s.layout.stations.filter (fun d => d.address != address.toNat) } } : State).reply body .ok [])) ∧
    (∀ (action : Byte) (fields : List Byte),
      let body := request 0x03 tag (action :: fields)
      2 ≤ action.toNat → fields.length = 2 ∨ fields.length = 1 → s.Takes body →
      exec .stationDefine s = .next (s.reply body .badValue []))

/-- R6, R184. The first check of Table 1-4 that fails ends the commit: its code, and the first object that fails it; nothing else
changes. Object kinds: 0 none, 1 lane, 2 island, 3 wash lane, 4 station. -/
def Obligations.CommitRefused : Prop :=
  ∀ (s : State) (tag : Byte),
    let body := request 0x04 tag []
    let l := s.layout
    let refused (code kind number : Nat) : Prop :=
      exec .layoutCommit s = .next (s.reply body .wrongState (u8 code ++ u8 kind ++ u8 number))
    s.mode = .unconfigured → s.Takes body →
    (¬ l.OneGate → refused 1 0 0) ∧
    (l.OneGate →
      (∀ d, FirstWithout l.Named l.demands d → refused 2 (placeKind (some d.object)) (placeNumber (some d.object))) ∧
      ((∀ d ∈ l.demands, l.Named d) →
        (∀ d, FirstWithout l.Matching l.demands d →
          refused 3 (placeKind (some d.object)) (placeNumber (some d.object))) ∧
        ((∀ d ∈ l.demands, l.Matching d) →
          (∀ t, FirstWithout l.Unshared l.stations t → refused 4 4 t.address) ∧
          ((∀ t ∈ l.stations, l.Unshared t) →
            (∀ t, FirstWithout l.Used l.stations t → refused 5 4 t.address) ∧
            ((∀ t ∈ l.stations, l.Used t) → ¬ l.Fits → refused 6 0 0)))))

/-- R7. A commit that passes every check of R6: RUNNING with RUNL lit, the records of every owner built, the first commands queued, both
round classes due and both round timers started; nothing else changes. -/
def Obligations.CommitIntoService : Prop :=
  ∀ (s : State) (tag : Byte),
    let body := request 0x04 tag []
    let l := s.layout
    let p := s.env.params
    let open_ : SignContent := { mode := .open, expected1 := 0, expected2 := 0, expected3 := 0, release := 0 }
    s.mode = .unconfigured → s.Takes body →
    l.OneGate → (∀ d ∈ l.demands, l.Named d ∧ l.Matching d) → (∀ t ∈ l.stations, l.Unshared t ∧ l.Used t) → l.Fits →
    let t : State :=
      ({ s with
        mode := .running
        rounds :=
          { s.rounds with
            urgentDue := true, routineDue := true
            urgentTimer := some p.urgentPeriod, routineTimer := some (p.routinePeriod * 1000) }
        yard :=
          { s.yard with
            lanes := l.lanes.map (fun d =>
              { number := d.number, kind := d.kind, capacity := d.capacity, gas := d.gas, station := d.station
                closed := false, hold := 0, mismatch := false, overfull := false, dark := false
                occupants := [], reservations := [], release := none, forceMask := 0, forceValue := 0
                inversions := 0, sign := open_, lastSign := none, signPending := false, confirmPending := false })
            points := l.points.map (fun d =>
              { id := d.id, offers := d.offers, station := d.station, state := .free, bus := none
                callTimer := none, recoveryTimer := none, faults := 0, closePending := false, downCause := none
                deferred := none, tally := 0, program := none, passesLeft := 0, retries := 0, selection := false })
            stations := l.stations.map (fun d =>
              { address := d.address, kind := d.kind
                served := if d.kind = .gate then none else l.served d.address
                state := .unknown, failures := 0, turnBit := none })
            cmdQueue :=
              l.lanes.map (fun d => { owner := .lane d.number, station := d.station, order := .sign open_ }) ++
                l.points.map (fun d => { owner := .point d.id, station := d.station, order := .clearCall }) } } :
        State).reply body .ok []
    exec .layoutCommit s = .next t ∧ t.runl = true

/-! ### Parameters, clock, resets -/

/-- R8, R9, R29. TIMING_SET of a list of pairs: the ranges of Table 1-5, all or none; the supervision timer and the sighting ages
are the only other state a change reaches. -/
def Obligations.ParametersSet : Prop :=
  ∀ (s : State) (tag : Byte) (pairs : List (Byte × Word)),
    let body := request 0x05 tag (u8 pairs.length ++ (pairs.map (fun p => p.1 :: u16 p.2.toNat)).flatten)
    let ranges : List (Nat × Nat × Nat) :=
      [(1, 1, 30), (2, 1, 30), (3, 1, 10), (4, 15, 255), (5, 0, 30), (6, 0, 8), (7, 0, 1439), (8, 0, 1), (10, 1, 15),
       (11, 1, 10), (12, 100, 1000), (13, 1, 10)]
    let inTable (p : Byte × Word) : Prop :=
      (∃ r ∈ ranges, r.1 = p.1.toNat ∧ r.2.1 ≤ p.2.toNat ∧ p.2.toNat ≤ r.2.2) ∨
        (p.1.toNat = 9 ∧ p.2.toNat ∈ [0, 1, 2, 4, 8, 16])
    let passes := (∀ p ∈ pairs, inTable p) ∧ (pairs.map Prod.fst).Nodup
    1 ≤ pairs.length → pairs.length ≤ 13 → s.Takes body →
    (¬ passes → exec .timingSet s = .next (s.reply body .badValue [])) ∧
    (passes →
      ∃ params : Params,
        (∀ i, i < 13 →
          params.values.getD i 0 =
            match pairs.find? (fun p => p.1.toNat == i + 1) with
            | some p => p.2.toNat
            | none => s.env.params.values.getD i 0) ∧
        exec .timingSet s = .next (
          ({ s with
            env := { s.env with params }
            yard :=
              { s.yard with
                supTimer :=
                  if params.supervision = 0 then none
                  else if s.env.params.supervision = 0 then some (params.supervision * 60)
                  else s.yard.supTimer
                fleet :=
                  if params.sightingReload < s.env.params.sightingReload then
                    s.yard.fleet.map (fun b => { b with age := min b.age params.sightingReload })
                  else s.yard.fleet } } : State).reply body .ok []))

/-- R10. CLOCK_SET moves the clock alone, a value above 86399 changes nothing; at the end of a second below 86399 the clock advances by
one and every running timer of the yard has one second less (the model's choice of whole seconds, log 4). -/
def Obligations.ClockSetAndAdvanced : Prop :=
  (∀ (s : State) (tag high middle low : Byte),
    let body := request 0x06 tag [high, middle, low]
    let second := high.toNat * 65536 + middle.toNat * 256 + low.toNat
    s.Takes body →
    exec .clockSet s = .next (
      if second ≤ 86399 then ({ s with env := { s.env with clock := second } } : State).reply body .ok []
      else s.reply body .badValue [])) ∧
  (∀ s : State, s.rstnLow = false → s.env.clock < 86399 →
    exec .clockAdvance s = .next { s with
      env := { s.env with clock := s.env.clock + 1 }
      yard :=
        { s.yard with
          supTimer := s.yard.supTimer.run 1
          fleet := s.yard.fleet.map (fun b => { b with holdTimer := b.holdTimer.run 1 })
          points := s.yard.points.map (fun q =>
            { q with callTimer := q.callTimer.run 1, recoveryTimer := q.recoveryTimer.run 1 })
          lanes := s.yard.lanes.map (fun l =>
            { l with reservations := l.reservations.map (fun r => { r with entryTimer := r.entryTimer.run 1 }) })
          departures := s.yard.departures.map (fun d => { d with lapse := d.lapse.run 1 })
          pacing := s.yard.pacing.run 1 } })

/-- R11, R31, R79, R95, R139. The advance from 86399 to 0, by either row (log 8): the clock, the nightly bus fields, the night
tallies, the pull-out ended and the unreleased entries missed, in list order and after DAY_ROLLED, each with its key change, which
recounts a lane's inversions and re-runs the berth wait list (R97, R103); the running timers have one second less (log 4). -/
def Obligations.DayRollover : Prop :=
  ∀ s : State, s.rstnLow = false →
    (s.env.clock < 86399 → exec .dayRollover s = .next s) ∧
    (s.env.clock = 86399 → s.yard.Bounded s.env.params →
      let x := s.yard
      let e : Env := { s.env with clock := 0 }
      let leaving (d : Departure) : Bool := d.state == .released || d.state == .outbound
      let begun : Yard :=
        { x.post e .dayRolled 0 none 0 0 with
          pullout := false
          pacing := none
          supTimer := x.supTimer.run 1
          fleet := x.fleet.map (fun b =>
            { b with missedCalls := 0, residue := 0, fuelTaken := 0, holdTimer := b.holdTimer.run 1 })
          points := x.points.map (fun q =>
            { q with callTimer := q.callTimer.run 1, recoveryTimer := q.recoveryTimer.run 1, tally := 0 })
          lanes := x.lanes.map (fun l =>
            { l with reservations := l.reservations.map (fun r => { r with entryTimer := r.entryTimer.run 1 }) })
          departures := x.departures.map (fun d => { d with lapse := d.lapse.run 1 }) }
      let missed (z : Yard) (d : Departure) : Yard :=
        let lane : Option Place :=
          match (z.bus? d.bus).map Bus.position with
          | some (.inLane n) => some (.lane n)
          | _ => none
        let code := [.waiting, .due, .confirming, .blocked, .late, .released, .outbound].idxOf d.state
        (({ z with departures := z.departures.filter (fun c => c.bus != d.bus) } : Yard).post e .missedSlot d.bus lane code
          d.slot).keyChanged e d.bus
      ∃ y : Yard,
        y = (x.departures.filter (fun d => !leaving d)).foldl missed begun ∧
        (∀ f b, x.bus? f = some b → ∃ c, y.bus? f = some c ∧ (c.wait = b.wait ∨ b.wait = .berth ∧ c.wait = .entry)) ∧
        exec .dayRollover s = .next { s with env := { s.env with clock := 0 }, yard := y } ∧
        exec .clockAdvance s = .next { s with env := { s.env with clock := 0 }, yard := y } ∧
        y.pullout = false ∧ y.pacing = none ∧ y.supTimer = x.supTimer.run 1 ∧
        y.departures = (x.departures.filter leaving).map (fun d => { d with lapse := d.lapse.run 1 }) ∧
        y.points = x.points.map (fun q =>
          { q with callTimer := q.callTimer.run 1, recoveryTimer := q.recoveryTimer.run 1, tally := 0 }) ∧
        (∀ f, (y.bus? f).map (fun b => { b with wait := .noPlan }) =
          (x.bus? f).map (fun b =>
            { b with
              wait := .noPlan, missedCalls := 0, residue := 0, fuelTaken := 0, holdTimer := b.holdTimer.run 1 })) ∧
        y.fuelPriority = x.fuelPriority ∧ y.fuelOrdinary = x.fuelOrdinary ∧ y.washQueue = x.washQueue ∧
        y.frost = x.frost ∧ y.stations = x.stations ∧ y.inFlight = x.inFlight ∧
        y.notices.tallies.getD 1 0 = min 65535 (x.notices.tallies.getD 1 0 + 1) ∧
        y.notices.tallies.getD 36 0 =
          min 65535 (x.notices.tallies.getD 36 0 + (x.departures.filter (fun d => !leaving d)).length))

/-- R14, R159, R179, R187. YARD_RESET: RUNL dark, what it keeps, and RESET_DONE with cause YARD taken under the kept map and enables. An
exchange it cuts leaves an idle wait before the next master frame (log 12). -/
def Obligations.YardReset : Prop :=
  ∀ (s : State) (tag : Byte),
    let body := request 0x08 tag []
    let u := s.yard.notices
    let cls := u.classes.getD 0 0
    s.Takes body →
    let t : State :=
      ({ State.reset with
        env := { State.reset.env with plan := s.env.plan }
        yard :=
          { State.reset.yard with
            notices :=
              { classes := u.classes, enable1 := u.enable1, enable2 := u.enable2, enable3 := u.enable3
                lost := 0, tallies := 1 :: List.replicate 41 0
                queue :=
                  if u.enabled cls then
                    [{ kind := .resetDone, cls, lost := 0, time := 0, fleet := 0, place := none, code := 2,
                       quantity := 0 }]
                  else [] } }
        line := { State.reset.line with phase := if s.line.phase = .free then .free else .idleWait }
        link := { s.link with frameErrors := 0 }
        pending := s.pending } : State).reply body .ok []
    exec .yardReset s = .next t ∧ t.runl = false

/-! ### Queries -/

/-- R12, Table 1-6 (widths of 11.6, log 17). STATUS_QUERY changes nothing but the reply. -/
def Obligations.StatusQueried : Prop :=
  ∀ (s : State) (tag : Byte),
    let body := request 0x07 tag []
    let y := s.yard
    let points (wash : Bool) : Nat := (s.layout.points.filter (fun d => d.id.isWash == wash)).length
    s.Takes body →
    Taken .statusQuery s s body
      (u8 (if s.mode = .running then 1 else 0) ++ u24 s.env.clock ++ u8 s.layout.lanes.length ++ u8 (points false) ++
        u8 (points true) ++ u8 s.layout.stations.length ++ u8 y.fleet.length ++
        u8 (y.fuelPriority.length + y.fuelOrdinary.length + y.washQueue.length) ++ u8 (if y.frost then 1 else 0) ++
        u8 (if y.pullout then 1 else 0) ++ u8 y.notices.queue.length ++ u8 y.notices.lost ++ u16 s.link.frameErrors ++
        (s.env.params.values.map u16).flatten)

/-- R78 (widths of 11.6, log 17; a wash lane's absent offers 255, log 29). TURN_QUERY in its two forms changes nothing but the reply;
queues 1 FUEL-PRIORITY, 2 FUEL-ORDINARY, 3 WASH (deduced, as the other codes no table gives: log 18). -/
def Obligations.TurnsQueried : Prop :=
  ∀ (s : State) (tag : Byte), s.mode = .running →
    let pointField (p : PointId) : List Byte :=
      match p with
      | .island n => u8 2 ++ u8 n
      | .wash n => u8 3 ++ u8 n
    let entry (t : PoolEntry) : List Byte :=
      u16 t.bus ++ u24 t.time ++
        (match t.request with
         | .fuel k => u8 (if k = .diesel then 0 else 1)
         | .wash program passes => u8 program ++ u8 passes) ++
        u8 t.skip ++
        (match t.status with
         | .waiting => [0#8, 0#8, 0#8]
         | .called p => u8 1 ++ pointField p
         | .serving p => u8 2 ++ pointField p)
    (∀ code start : Byte,
      let body := request 0x20 tag [0#8, code, start]
      let queue :=
        if code.toNat = 1 then s.yard.fuelPriority else if code.toNat = 2 then s.yard.fuelOrdinary else s.yard.washQueue
      let listed := (queue.drop start.toNat).take 12
      let inRange := 1 ≤ code.toNat ∧ code.toNat ≤ 3 ∧ start.toNat ≤ 47
      s.Takes body →
      (¬ inRange → Refused .turnQueryQueue s body .badValue) ∧
      (inRange →
        Taken .turnQueryQueue s s body (u8 queue.length ++ u8 listed.length ++ (listed.map entry).flatten))) ∧
    (let body := request 0x20 tag [1#8]
     s.Takes body →
     Taken .turnQueryPoints s s body
       (u8 s.yard.points.length ++
         (s.yard.points.map (fun q =>
           pointField q.id ++
             u8 (match q.offers with | some .diesel => 0 | some .gas => 1 | some .both => 2 | none => 255) ++
             u8 q.state.code ++ u16 (q.bus.getD 0) ++ u16 ((q.callTimer.or q.recoveryTimer).getD 0) ++
             u8 (if q.id.isWash then q.retries else q.faults) ++ u8 (if q.closePending then 1 else 0) ++
             u8 ((q.downCause.map DownCause.code).getD 0) ++ (if q.id.isWash then u16 q.tally else u24 q.tally))).flatten)) ∧
    (∀ (form : Byte) (fields : List Byte),
      let body := request 0x20 tag (form :: fields)
      2 ≤ form.toNat → fields.length = 2 ∨ fields.length = 0 → s.Takes body →
      Refused .turnQueryQueue s body .badValue)

/-- R120 (widths of 11.6, log 17; codes, log 18). LANE_QUERY in its two forms changes nothing but the reply. The model's choices: a form
byte which chooses neither is BAD_VALUE (log 23), and the reply of a lane too full for its format (log 35). -/
def Obligations.LanesQueried : Prop :=
  ∀ (s : State) (tag : Byte), s.mode = .running →
    let y := s.yard
    let flag (b : Bool) : List Byte := u8 (if b then 1 else 0)
    let sign (c : SignContent) : List Byte :=
      u8 (match c.mode with | .open => 0 | .hold => 1 | .closed => 2) ++ u16 c.expected1 ++ u16 c.expected2 ++ u16 c.expected3 ++
        u16 c.release
    (∀ number : Byte,
      let body := request 0x28 tag [0#8, number]
      s.Takes body →
      (number.toNat < 1 ∨ 24 < number.toNat → Refused .laneQueryLane s body .badValue) ∧
      (1 ≤ number.toNat → number.toNat ≤ 24 → y.lane? number.toNat = none → Refused .laneQueryLane s body .notFound) ∧
      (∀ l, 1 ≤ number.toNat → number.toNat ≤ 24 → y.lane? number.toNat = some l →
        Taken .laneQueryLane s s body
          (u8 l.number ++ u8 (if l.kind = .through then 0 else 1) ++ u8 l.capacity ++ flag l.gas ++ u8 l.station ++
            flag l.closed ++ u8 l.hold ++ flag l.mismatch ++ flag l.overfull ++ flag l.dark ++
            (u8 l.occupants.length ++
              (l.occupants.map (fun f =>
                u16 f ++ u8 (((y.bus? f).map (fun b => if b.length = .standard then 0 else 1)).getD 0) ++
                  u16 (y.key f))).flatten) ++
            (u8 l.reservations.length ++
              (l.reservations.map (fun r =>
                u16 r.bus ++ u8 r.places ++ u8 (if r.kind = .park then 1 else 2) ++ u16 (r.entryTimer.getD 0) ++
                  u8 r.lapses)).flatten) ++
            (match l.release with | some (f, r) => u16 f ++ u8 r.code | none => u16 0 ++ u8 0) ++
            u16 l.forceMask.toNat ++ u16 l.forceValue.toNat ++ u8 l.inversions ++ sign l.sign ++
            (match l.lastSign with
             | some c => sign c
             | none => u8 255 ++ u16 0 ++ u16 0 ++ u16 0 ++ u16 0) ++
            u8 (unsentCode (y.unsent? (.lane l.number))) ++ flag l.signPending ++ flag l.confirmPending ++
            [BitVec.ofInt 8 ((l.capacity : Int) - y.occupied l - l.reserved)]))) ∧
    (∀ start : Byte,
      let body := request 0x28 tag [1#8, start]
      let listed := (y.waits.drop start.toNat).take 16
      s.Takes body →
      (191 < start.toNat → Refused .laneQueryWaits s body .badValue) ∧
      (start.toNat ≤ 191 →
        Taken .laneQueryWaits s s body
          (u8 y.waits.length ++ u8 listed.length ++
            (listed.map (fun w => u16 w.bus ++ u8 (w.lane.getD 0) ++ u8 w.lapses)).flatten))) ∧
    (∀ form field : Byte,
      let body := request 0x28 tag [form, field]
      2 ≤ form.toNat → s.Takes body → Refused .laneQueryLane s body .badValue)

/-- R141, R158 (widths of 11.6, log 17; codes, log 18). DEPART_QUERY and STATION_QUERY change nothing but the reply. In UNCONFIGURED a
station stands as its definition gives it. What holds the line after the last exchange of a grant is the model's choice (log 36). -/
def Obligations.DeparturesAndStationsQueried : Prop :=
  ∀ (s : State) (tag start : Byte),
    let y := s.yard
    (let body := request 0x35 tag [start]
     let listed := (y.departures.drop start.toNat).take 16
     s.mode = .running → s.Takes body →
     (191 < start.toNat → Refused .departQuery s body .badValue) ∧
     (start.toNat ≤ 191 →
       Taken .departQuery s s body
         (u8 (if y.pullout then 1 else 0) ++ u16 (y.pacing.getD 0) ++ u8 y.departures.length ++
           u8 ((y.departures.findIdx? (fun d => d.state != .released && d.state != .outbound)).getD 255) ++
           u8 listed.length ++
           (listed.map (fun d =>
             u16 d.slot ++ u16 d.bus ++ u8 d.state.code ++ u8 (if d.noticeSent then 1 else 0) ++ u16 (d.lapse.getD 0) ++
               u8 (((y.bus? d.bus).map (fun b => b.position.code)).getD 0))).flatten))) ∧
    (let body := request 0x3A tag [start]
     let head := u8 y.cmdQueue.length ++ u8 s.line.asks.length ++
       u8 (match s.line.holder with | none => 0 | some .round => 1 | some .command => 2 | some .ask => 3)
     s.Takes body →
     (start.toNat < 1 ∨ 63 < start.toNat → Refused .stationQuery s body .badValue) ∧
     (1 ≤ start.toNat → start.toNat ≤ 63 → s.mode = .running →
       let listed := (y.stations.filter (fun t => start.toNat ≤ t.address)).take 31
       Taken .stationQuery s s body
         (head ++ u8 listed.length ++
           (listed.map (fun t =>
             u8 t.address ++ u8 t.kind.code ++ u8 ((t.served.map Place.code).getD 0) ++
               u8 (match t.state with | .unknown => 0 | .alive => 1 | .lost => 2) ++ u8 t.failures ++
               u8 (match t.turnBit with | some false => 0 | some true => 1 | none => 2) ++
               u8 (y.marker t.address))).flatten)) ∧
     (1 ≤ start.toNat → start.toNat ≤ 63 → s.mode = .unconfigured →
       let listed := (s.layout.stations.filter (fun t => start.toNat ≤ t.address)).take 31
       Taken .stationQuery s s body
         (head ++ u8 listed.length ++
           (listed.map (fun t => u8 t.address ++ u8 t.kind.code ++ [0#8, 0#8, 0#8, 2#8, 0#8])).flatten)))

/-! ### The fleet table -/

/-- R16. BUS_ENROL: the checks in order, and the record with the enrolment values of Table 2-1. -/
def Obligations.BusEnrolled : Prop :=
  ∀ (s : State) (tag kind length routeClass : Byte) (fleet home : Word),
    let body := request 0x10 tag (u16 fleet.toNat ++ [kind, length, routeClass] ++ u16 home.toNat)
    let inRange := fleetValid fleet ∧ kind.toNat ≤ 1 ∧ length.toNat ≤ 1 ∧ routeClass.toNat ≤ 15 ∧
      (home.toNat ≤ 511 ∨ home.toNat = 65535)
    s.Takes body →
    (¬ inRange → Refused .busEnrol s body .badValue) ∧
    (inRange → (s.yard.bus? fleet.toNat).isSome → Refused .busEnrol s body .exists_) ∧
    (inRange → s.yard.bus? fleet.toNat = none → 192 ≤ s.yard.fleet.length → Refused .busEnrol s body .noRoom) ∧
    (inRange → s.yard.bus? fleet.toNat = none → s.yard.fleet.length < 192 →
      ∃ records : List Bus,
        Taken .busEnrol s (s.withYard { s.yard with fleet := records }) body [] ∧
        records.length = s.yard.fleet.length + 1 ∧
        ((s.yard.fleet.map Bus.fleet).Pairwise (· < ·) → (records.map Bus.fleet).Pairwise (· < ·)) ∧
        ∀ f, ({ s.yard with fleet := records } : Yard).bus? f =
          if f = fleet.toNat then
            some
              { fleet := fleet.toNat
                fuelKind := if kind.toNat = 0 then .diesel else .gas
                length := if length.toNat = 0 then .standard else .articulated
                routeClass := routeClass.toNat
                homePlan := if home.toNat = 65535 then none else some home.toNat
                fuelWanted := false, washWanted := false, position := .outside, wait := .noPlan, cursor := none
                stack := [], repeatCount := none, fault := none, shuntMarker := none, age := 0, missedCalls := 0
                residue := 0, fuelTaken := 0, holdTimer := none }
          else s.yard.bus? f)

/-- R17. BUS_SET of 1 to 6 changes, each a field code (by the order in which R17 lists the fields) and a value. -/
def Obligations.BusFieldsSet : Prop :=
  ∀ (s : State) (tag : Byte) (fleet : Word) (changes : List (Byte × Word)),
    let body := request 0x11 tag
      (u16 fleet.toNat ++ u8 changes.length ++ (changes.map (fun c => c.1 :: u16 c.2.toNat)).flatten)
    let inRange (c : Byte × Word) : Prop :=
      (c.1.toNat ∈ [0, 1, 4, 5] ∧ c.2.toNat ≤ 1) ∨ (c.1.toNat = 2 ∧ (c.2.toNat ≤ 511 ∨ c.2.toNat = 65535)) ∨
        (c.1.toNat = 3 ∧ c.2.toNat ≤ 15)
    let passes := fleetValid fleet ∧ (∀ c ∈ changes, inRange c) ∧ (changes.map Prod.fst).Nodup
    let named (code : Nat) : Option Nat := (changes.find? (fun c => c.1.toNat == code)).map (fun c => c.2.toNat)
    let rebuilds := (named 4).isSome ∨ (named 5).isSome
    1 ≤ changes.length → changes.length ≤ 6 → s.Takes body →
    (¬ passes → Refused .busSet s body .badValue) ∧
    (passes → s.yard.bus? fleet.toNat = none → Refused .busSet s body .notFound) ∧
    (∀ b, passes → s.yard.bus? fleet.toNat = some b →
      (rebuilds → ¬ (b.position.Free ∧ b.wait.Idle) → Refused .busSet s body .wrongState) ∧
      ((rebuilds → b.position.Free ∧ b.wait.Idle) →
        Taken .busSet s
          (s.withYard (s.yard.setBus fleet.toNat (fun b =>
            { b with
              fuelWanted := ((named 0).map (fun v => v == 1)).getD b.fuelWanted
              washWanted := ((named 1).map (fun v => v == 1)).getD b.washWanted
              homePlan := ((named 2).map (fun v => if v = 65535 then none else some v)).getD b.homePlan
              routeClass := (named 3).getD b.routeClass
              fuelKind := ((named 4).map (fun v => if v = 0 then .diesel else .gas)).getD b.fuelKind
              length := ((named 5).map (fun v => if v = 0 then .standard else .articulated)).getD b.length })))
          body []))

/-- R18, R19, Table 11-7. BUS_QUERY changes nothing but the reply: the bus report of a bus, byte by byte, or the fleet numbers from a
start. The model's choices: the turn's time and skip count of a bus with no pool entry are 0 (log 29), and a form byte that names neither
form is BAD_VALUE (log 23). -/
def Obligations.FleetQueried : Prop :=
  ∀ (s : State) (tag : Byte) (fleet : Word),
    let y := s.yard
    (let body := request 0x12 tag (0#8 :: u16 fleet.toNat)
     s.Takes body →
     (¬ fleetValid fleet → Refused .busQueryRecord s body .badValue) ∧
     (fleetValid fleet → y.bus? fleet.toNat = none → Refused .busQueryRecord s body .notFound) ∧
     (∀ b, fleetValid fleet → y.bus? fleet.toNat = some b →
       let address (a : Option Nat) : List Byte := u16 (a.getD 65535)
       let waitCode (w : PlanWait) : Nat :=
         [.noPlan, .turn, .called, .serving, .hold, .berth, .entry, .ended, .stalled, .faulted].idxOf w
       let place : Nat :=
         match b.position with
         | .outside => 0 | .loose => 1 | .inLane n => 10 + n | .atPoint (.island n) => 40 + n | .atPoint (.wash n) => 50 + n
       let fault : Nat :=
         match b.fault with
         | none => 0
         | some c =>
           1 + [.emptyStep, .range, .stackFull, .stackEmpty, .badRepeat, .runaway, .missedCalls, .parkTimeout].idxOf c
       let departure := y.departures.find? (fun d => d.bus == fleet.toNat)
       let stateCode (d : Departure) : Nat :=
         [.waiting, .due, .confirming, .blocked, .late, .released, .outbound].idxOf d.state
       let holds (queue : List PoolEntry) : Bool := queue.any (fun t => t.bus == fleet.toNat)
       let turn := (y.fuelPriority ++ y.fuelOrdinary ++ y.washQueue).find? (fun t => t.bus == fleet.toNat)
       let report :=
         u16 fleet.toNat ++ u8 (if b.fuelKind = .diesel then 0 else 1) ++ u8 (if b.length = .standard then 0 else 1) ++
           u8 b.routeClass ++ address b.homePlan ++ u8 ((if b.fuelWanted then 1 else 0) + (if b.washWanted then 2 else 0)) ++
           u8 place ++ u8 (waitCode b.wait) ++ address b.cursor ++ u8 fault ++ u8 b.stack.length ++ address b.stack[0]? ++
           address b.stack[1]? ++ u8 (b.repeatCount.getD 0) ++ u8 ((b.shuntMarker.map waitCode).getD 255) ++ u8 b.age ++
           u8 b.missedCalls ++ u8 b.residue ++ u16 b.fuelTaken ++ address (departure.map Departure.slot) ++
           u8 ((departure.map stateCode).getD 255) ++
           u8 (if holds y.fuelPriority then 1 else if holds y.fuelOrdinary then 2 else if holds y.washQueue then 3 else 0) ++
           u24 ((turn.map PoolEntry.time).getD 0) ++ u8 ((turn.map PoolEntry.skip).getD 0)
       Taken .busQueryRecord s s body report ∧ report.length = 33)) ∧
    (let body := request 0x12 tag (1#8 :: u16 fleet.toNat)
     let above := (y.fleet.map Bus.fleet).filter (fun f => fleet.toNat ≤ f)
     let listed := above.take 64
     s.Takes body →
     (¬ fleetValid fleet → Refused .busQueryList s body .badValue) ∧
     (fleetValid fleet →
       Taken .busQueryList s s body
         (u8 y.fleet.length ++ u8 listed.length ++ (listed.map u16).flatten ++
           u8 (if listed.length < above.length then 1 else 0)))) ∧
    (∀ form : Byte,
      let body := request 0x12 tag (form :: u16 fleet.toNat)
      2 ≤ form.toNat → s.Takes body → Refused .busQueryRecord s body .badValue)

/-- R20, R21, R65. BUS_WITHDRAW: the checks, and what the teardown leaves: no record, departure entry, pool entry, berth wait, point
record, reservation or claim of the bus; every other record as it was, a plan wait too unless a berth granted took it from BERTH to ENTRY;
and none of the notices that R21 rules out. -/
def Obligations.BusWithdrawn : Prop :=
  ∀ (s : State) (tag : Byte) (fleet : Word),
    let body := request 0x13 tag (u16 fleet.toNat)
    let f := fleet.toNat
    s.Takes body →
    (¬ fleetValid fleet → Refused .busWithdraw s body .badValue) ∧
    (fleetValid fleet → s.yard.bus? f = none → Refused .busWithdraw s body .notFound) ∧
    (∀ b, fleetValid fleet → s.yard.bus? f = some b →
      (¬ b.position.Free ∨ b.wait = .serving → Refused .busWithdraw s body .wrongState) ∧
      (b.position.Free → b.wait ≠ .serving →
        ∃ y : Yard,
          Taken .busWithdraw s (s.withYard y) body [] ∧
          y.bus? f = none ∧ y.departure? f = none ∧ y.named f = false ∧ y.turn? f = none ∧ (∀ w ∈ y.waits, w.bus ≠ f) ∧
          y.reservation? f = none ∧ (∀ l ∈ y.lanes, ∀ reason, l.release ≠ some (f, reason)) ∧
          (∀ g, g ≠ f → (y.bus? g).map (fun c => { c with wait := .noPlan }) =
            (s.yard.bus? g).map (fun c => { c with wait := .noPlan })) ∧
          (∀ g c, g ≠ f → s.yard.bus? g = some c →
            ∃ d, y.bus? g = some d ∧ (d.wait = c.wait ∨ c.wait = .berth ∧ d.wait = .entry)) ∧
          (∀ g, g ≠ f → y.departure? g = s.yard.departure? g ∧ y.turn? g = s.yard.turn? g) ∧
          SilentOn [.turnDone, .callMissed, .entryLapsed, .missedSlot, .departed, .unscheduledExit] s.yard y))

/-! ### Plans -/

/-- Table 11-11: every step record that holds a step of Table 3-1, or EMPTY, is read back as what was written, and its six bytes are the
table's (kind, argument, target and minute, the high byte of each pair first). -/
def Obligations.StepRecordsRoundTrip : Prop :=
  (∀ content : Option Step, (∀ st, content = some st → st.InRange) →
    stepOf (slotBytes content) = some content ∧ (slotBytes content).length = 6) ∧
  (let high (n : Nat) : Byte := BitVec.ofNat 8 (n / 256)
   let low (n : Nat) : Byte := BitVec.ofNat 8 n
   slotBytes none = [0, 0, 0, 0, 0, 0] ∧
   slotBytes (some .fuel) = [1, 0, 0, 0, 0, 0] ∧
   (∀ program, slotBytes (some (.wash program)) = [2, low program, 0, 0, 0, 0]) ∧
   slotBytes (some (.park none)) = [3, 0, 0, 0, 0, 0] ∧
   (∀ lane, slotBytes (some (.park (some lane))) = [3, low lane, 0, 0, 0, 0]) ∧
   (∀ minutes, slotBytes (some (.hold minutes)) = [4, low minutes, 0, 0, 0, 0]) ∧
   (∀ count, slotBytes (some (.rep count)) = [5, low count, 0, 0, 0, 0]) ∧
   (∀ a, slotBytes (some (.test .fuelWanted a)) = [6, 1, high a, low a, 0, 0]) ∧
   (∀ a, slotBytes (some (.test .washWanted a)) = [6, 2, high a, low a, 0, 0]) ∧
   (∀ a, slotBytes (some (.test .frost a)) = [6, 3, high a, low a, 0, 0]) ∧
   (∀ a, slotBytes (some (.test .hasSlot a)) = [6, 4, high a, low a, 0, 0]) ∧
   (∀ a minute, slotBytes (some (.test (.slotBefore minute) a)) = [6, 5, high a, low a, high minute, low minute]) ∧
   (∀ a, slotBytes (some (.test .residue a)) = [6, 6, high a, low a, 0, 0]) ∧
   (∀ a, slotBytes (some (.jump a)) = [7, 0, high a, low a, 0, 0]) ∧
   (∀ a, slotBytes (some (.call a)) = [8, 0, high a, low a, 0, 0]) ∧
   slotBytes (some .ret) = [9, 0, 0, 0, 0, 0] ∧
   (∀ code, slotBytes (some (.note code)) = [10, low code, 0, 0, 0, 0]) ∧
   slotBytes (some (.finish true)) = [11, 0, 0, 0, 0, 0] ∧
   slotBytes (some (.finish false)) = [11, 1, 0, 0, 0, 0])

/-- R34, Table 11-11. The records that are refused: a kind that Table 3-1 does not have, an argument outside its range, a condition
that Table 3-3 does not have, and a minute other than 0 where none belongs (2 WASH, 3 PARK, 4 HOLD, 5 REPEAT, 6 TEST, 7 JUMP, 8 CALL,
11 END); and PLAN_WRITE of 1 to 16 records of six bytes, all checked before any slot is written. -/
def Obligations.PlanWritten : Prop :=
  (∀ (kind argument : Byte) (target minute : Word),
    stepOf (kind :: argument :: (u16 target.toNat ++ u16 minute.toNat)) = none ↔
      11 < kind.toNat ∨
      (kind.toNat = 2 ∧ (argument.toNat < 1 ∨ 4 < argument.toNat)) ∨
      (kind.toNat = 3 ∧ 24 < argument.toNat) ∨
      (kind.toNat = 4 ∧ (argument.toNat < 1 ∨ 120 < argument.toNat)) ∨
      (kind.toNat = 5 ∧ 15 < argument.toNat) ∨
      (kind.toNat = 6 ∧ (argument.toNat < 1 ∨ 6 < argument.toNat ∨ 511 < target.toNat ∨
        (argument.toNat ≠ 5 ∧ minute.toNat ≠ 0) ∨ 1439 < minute.toNat)) ∨
      ((kind.toNat = 7 ∨ kind.toNat = 8) ∧ 511 < target.toNat) ∨
      (kind.toNat = 11 ∧ 1 < argument.toNat)) ∧
  (∀ (s : State) (tag : Byte) (start : Word) (records : List (List Byte)),
    let body := request 0x18 tag (u16 start.toNat ++ u8 records.length ++ records.flatten)
    let passes := start.toNat + records.length ≤ 512 ∧ ∀ r ∈ records, (stepOf r).isSome
    1 ≤ records.length → records.length ≤ 16 → (∀ r ∈ records, r.length = 6) → s.env.plan.wf = true → s.Takes body →
    (¬ passes → Refused .planWrite s body .badValue) ∧
    (passes →
      ∃ plan : PlanStore,
        Taken .planWrite s { s with env := { s.env with plan } } body [] ∧
        plan.wf = true ∧
        ∀ a, plan.read a =
          if start.toNat ≤ a ∧ a < start.toNat + records.length then (stepOf (records.getD (a - start.toNat) [])).join
          else s.env.plan.read a))

/-- R36. PLAN_READ: the content of each slot, in address order from the start. -/
def Obligations.PlanRead : Prop :=
  ∀ (s : State) (tag count : Byte) (start : Word),
    let body := request 0x19 tag (u16 start.toNat ++ [count])
    let inRange := start.toNat ≤ 511 ∧ 1 ≤ count.toNat ∧ count.toNat ≤ 16 ∧ start.toNat + count.toNat - 1 ≤ 511
    s.Takes body →
    (¬ inRange → Refused .planRead s body .badValue) ∧
    (inRange →
      Taken .planRead s s body
        (count :: ((List.range count.toNat).map (fun i => slotBytes (s.env.plan.read (start.toNat + i)))).flatten))

/-- R37, R38, R52. PLAN_START and PLAN_RESUME: the checks, and a fresh advance of at most 16 steps, whose outcome the reply carries; a
start sets the record first, a resume keeps the cursor and the repeat count. -/
def Obligations.PlansStartedAndResumed : Prop :=
  ∀ (s : State) (tag : Byte) (fleet address : Word), s.mode = .running →
    let f := fleet.toNat
    let a := address.toNat
    let advanced (c : Instr) (body : List Byte) (y : Yard) : Prop :=
      ∃ b, y.bus? f = some b ∧ Taken c s (s.withYard y) body (u8 b.wait.code ++ u16 (b.cursor.getD 65535))
    (let body := request 0x1A tag (u16 f ++ u16 a)
     s.Takes body →
     (¬ fleetValid fleet ∨ 511 < a → Refused .planStart s body .badValue) ∧
     (fleetValid fleet → a ≤ 511 → s.yard.bus? f = none → Refused .planStart s body .notFound) ∧
     (∀ b, fleetValid fleet → a ≤ 511 → s.yard.bus? f = some b →
       (¬ b.wait.Idle → Refused .planStart s body .wrongState) ∧
       (b.wait.Idle →
         let set :=
           s.yard.setBus f (fun b => { b with stack := [], repeatCount := none, fault := none, cursor := some a })
         advanced .planStart body (set.advanceSteps s.env f 16 none a)))) ∧
    (let body := request 0x1B tag (u16 f)
     s.Takes body →
     (¬ fleetValid fleet → Refused .planResume s body .badValue) ∧
     (fleetValid fleet → s.yard.bus? f = none → Refused .planResume s body .notFound) ∧
     (∀ b, fleetValid fleet → s.yard.bus? f = some b →
       (b.wait ≠ .stalled → Refused .planResume s body .wrongState) ∧
       (∀ at_, b.wait = .stalled → b.cursor = some at_ →
         advanced .planResume body (s.yard.advanceSteps s.env f 16 none at_))))

/-- R39. Before each fetch of an advance with `n` more steps allowed: the chain limit, the range, the empty slot, the repeat
placement, in this order. RUNAWAY leaves the cursor at the address about to be fetched, past 511 too (log 13, deduced). -/
def Obligations.AdvanceChecks : Prop :=
  ∀ (e : Env) (y : Yard) (f a n : Nat) (mark : Option Nat) (b : Bus), y.bus? f = some b →
    (y.advanceSteps e f 0 mark a = y.faulted e f .runaway a) ∧
    (511 < a → y.advanceSteps e f (n + 1) mark a = y.faulted e f .range 511) ∧
    (a ≤ 511 → e.plan.read a = none → y.advanceSteps e f (n + 1) mark a = y.faulted e f .emptyStep a) ∧
    (∀ st, a ≤ 511 → e.plan.read a = some st → b.repeatCount.isSome → (∀ p, st ≠ .wash p) → (∀ m, st ≠ .hold m) →
      y.advanceSteps e f (n + 1) mark a = y.faulted e f .badRepeat a)

/-- R41 to R44. The immediate and ending steps, fetched at an address by an advance with `n` steps left after this one. -/
def Obligations.ImmediateSteps : Prop :=
  ∀ (e : Env) (y : Yard) (f a n : Nat) (mark : Option Nat) (b : Bus), y.bus? f = some b → b.repeatCount = none → a ≤ 511 →
    let here := y.setBus f (fun b => { b with cursor := some a })
    let go := y.advanceSteps e f (n + 1) mark a
    let holds (c : TestCond) : Prop :=
      match c with
      | .fuelWanted => b.fuelWanted = true
      | .washWanted => b.washWanted = true
      | .frost => y.frost = true
      | .hasSlot => (y.departure? f).isSome
      | .slotBefore m => ∃ d, y.departure? f = some d ∧ d.slot < m
      | .residue => 0 < b.residue
    (∀ c, e.plan.read a = some (.rep c) →
      go = (here.setBus f (fun b => { b with repeatCount := some (if c = 0 then 16 else c) })).advanceSteps e f n none
        (a + 1)) ∧
    (∀ c target, e.plan.read a = some (.test c target) →
      (holds c → go = here.advanceSteps e f n none target) ∧
      (¬ holds c → go = here.advanceSteps e f n none (a + 1))) ∧
    (∀ target, e.plan.read a = some (.jump target) → go = here.advanceSteps e f n none target) ∧
    (∀ target, e.plan.read a = some (.call target) →
      (2 ≤ b.stack.length → go = here.faulted e f .stackFull a) ∧
      (b.stack.length < 2 → a = 511 → go = here.faulted e f .range 511) ∧
      (b.stack.length < 2 → a < 511 →
        go = (here.setBus f (fun b => { b with stack := (a + 1) :: b.stack })).advanceSteps e f n none target)) ∧
    (e.plan.read a = some .ret →
      (b.stack = [] → go = here.faulted e f .stackEmpty a) ∧
      (∀ r rest, b.stack = r :: rest →
        go = (here.setBus f (fun b => { b with stack := rest })).advanceSteps e f n none r)) ∧
    (∀ code, e.plan.read a = some (.note code) →
      go = (here.post e .planNote f none code a).advanceSteps e f n none (a + 1)) ∧
    (∀ notify, e.plan.read a = some (.finish notify) →
      let ended := here.setBus f (fun b => { b with wait := .ended, stack := [] })
      go = if notify then ended.post e .planEnded f none 0 a else ended)

/-- R45, R46, R48, R52, R56, R57. The waiting steps FUEL, WASH and HOLD, fetched at an address; a wash in frost ends at once, and a
full pool stalls the plan. -/
def Obligations.WaitingSteps : Prop :=
  ∀ (e : Env) (y : Yard) (f a n : Nat) (mark : Option Nat) (b : Bus), y.bus? f = some b → a ≤ 511 →
    let here := y.setBus f (fun b => { b with cursor := some a })
    let go := y.advanceSteps e f (n + 1) mark a
    let turn (r : TurnRequest) : PoolEntry := { bus := f, time := e.clock, request := r, skip := 0, status := .waiting }
    let full := 48 ≤ y.poolUsed
    let priority := ∃ d, y.departure? f = some d ∧ d.slot ≤ e.params.priorityCutoff
    let passes := b.repeatCount.getD 1
    let waits (y1 : Yard) : Yard := (y1.setBus f (fun b => { b with wait := .turn })).raise
    let stalls (code : Nat) : Yard :=
      (here.setBus f (fun b => { b with wait := .stalled })).post e .planStalled f none code a
    (b.repeatCount = none → e.plan.read a = some .fuel →
      (full → go = stalls 1) ∧
      (¬ full → priority →
        go = waits { here with fuelPriority := here.fuelPriority ++ [turn (.fuel b.fuelKind)] }) ∧
      (¬ full → ¬ priority →
        go = waits { here with fuelOrdinary := here.fuelOrdinary ++ [turn (.fuel b.fuelKind)] })) ∧
    (∀ p, e.plan.read a = some (.wash p) →
      (y.frost = true →
        go = (here.setBus f (fun b => { b with residue := passes, repeatCount := none })).advanceSteps e f n none
          (a + 1)) ∧
      (y.frost = false → full → go = stalls 2) ∧
      (y.frost = false → ¬ full →
        go = waits { here with washQueue := here.washQueue ++ [turn (.wash p passes)] })) ∧
    (∀ m, e.plan.read a = some (.hold m) →
      go = here.setBus f (fun b => { b with wait := .hold, holdTimer := some (m * 60 * passes) }))

/-- R53, R65, R117. PLAN_ABORT: what is given back for each plan wait, and the plan fields cleared. The SHUNT claim goes back if the ENTRY
was set by a SHUNT; that the target's sign is recomputed before the origin's is the model's choice (log 32). -/
def Obligations.PlanAborted : Prop :=
  ∀ (s : State) (tag : Byte) (fleet : Word),
    let body := request 0x1C tag (u16 fleet.toNat)
    let f := fleet.toNat
    let y := s.yard
    s.mode = .running → s.Takes body →
    (¬ fleetValid fleet → Refused .planAbort s body .badValue) ∧
    (fleetValid fleet → y.bus? f = none → Refused .planAbort s body .notFound) ∧
    (∀ b, fleetValid fleet → y.bus? f = some b →
      let aborted (y1 : Yard) : Prop :=
        Taken .planAbort s
          (s.withYard (y1.setBus f (fun b =>
            { b with wait := .noPlan, cursor := none, stack := [], repeatCount := none, fault := none })))
          body []
      (b.wait ∈ [.noPlan, .ended, .stalled, .faulted] → aborted y) ∧
      (b.wait = .turn ∨ b.wait = .serving → aborted (y.freeTurn f)) ∧
      (b.wait = .hold → aborted (y.setBus f (fun b => { b with holdTimer := none }))) ∧
      (b.wait = .berth → aborted { y with waits := y.waits.filter (fun w => w.bus != f) }) ∧
      (∀ q, b.wait = .called → y.callingPoint? f = some q →
        aborted (((y.withdrawCall q.id).releaseClaim f .call).freeTurn f)) ∧
      (∀ n r, b.wait = .entry → y.reservation? f = some (n, r) →
        let dropped :=
          (y.setLane n (fun l => { l with reservations := l.reservations.filter (fun r => r.bus != f) })).updateSign n
        let freed := if b.shuntMarker = none then dropped else dropped.releaseClaim f .shunt
        aborted ((freed.setBus f (fun b => { b with shuntMarker := none })).rerunWaits s.env)))

/-! ### Turns, islands, wash lanes -/

/-- R65, R74, R75, R80, R93. POINT_CLOSE and POINT_OPEN by the point's state. Of the other points at most the selection flag changes;
a call closed touches no other bus, entry or lane than those of the call, and posts nothing. The CLEAR_CALL that a closing point
would have to defer is discarded with it (log 20, deduced); that a kind byte other than 2 and 3 is BAD_VALUE is the model's choice
(log 23). And what the closing shares with other events: a call withdrawn, a turn returned, a point freed, a point taken down. -/
def Obligations.PointsClosedAndOpened : Prop :=
  let vacant (state : PointState) (cause : Option DownCause) (q : Point) : Point :=
    { q with
      state, bus := none, callTimer := none, recoveryTimer := none, program := none, passesLeft := 0, retries := 0
      downCause := cause }
  let closed (q : Point) : Point := { vacant .closed (some .host) q with closePending := false, deferred := none }
  let freed (frost : Bool) (q : Point) : Point :=
    if q.closePending then closed q
    else if q.id.isWash && frost then vacant .frozen none q
    else { vacant .free none q with selection := true }
  (∀ (s : State) (tag kind number : Byte), s.mode = .running →
    let e := s.env
    let y := s.yard
    let named : Option PointId :=
      if kind.toNat = 2 ∧ 1 ≤ number.toNat ∧ number.toNat ≤ 4 then some (.island number.toNat)
      else if kind.toNat = 3 ∧ 1 ≤ number.toNat ∧ number.toNat ≤ 2 then some (.wash number.toNat)
      else none
    let pointsOnly (p : PointId) (y1 : Yard) : Prop :=
      y1 = { y with points := y1.points } ∧
        ∀ r, r ≠ p → (y1.point? r).map (fun q => { q with selection := false }) =
          (y.point? r).map (fun q => { q with selection := false })
    (let body := request 0x21 tag [kind, number]
     s.Takes body →
     (named = none → Refused .pointClose s body .badValue) ∧
     (∀ p, named = some p → y.point? p = none → Refused .pointClose s body .notFound) ∧
     (∀ p q, named = some p → y.point? p = some q →
       (q.state ∈ [.occupied, .serving, .recovering, .clearing, .frozen] →
         Taken .pointClose s (s.withYard (y.setPoint p (fun q => { q with closePending := true }))) body []) ∧
       (q.state = .closed → Taken .pointClose s s body []) ∧
       (q.state = .free ∨ q.state = .down →
         ∃ y1, Taken .pointClose s (s.withYard y1) body [] ∧ y1.point? p = some (closed q) ∧ pointsOnly p y1) ∧
       (∀ f t b, q.state = .calling → q.bus = some f → y.turn? f = some t → y.bus? f = some b → b.wait = .called →
         (t.request.isWash && y.frost) = false →
         ∃ y1, Taken .pointClose s (s.withYard y1) body [] ∧ y1.point? p = some (closed q) ∧
           y1.turn? f = some { t with status := .waiting } ∧ y1.bus? f = some { b with wait := .turn } ∧
           (∀ l, y.lanes.find? (fun l => l.release == some (f, .call)) = some l → y.lane? l.number = some l →
             ∃ pending, y1.lane? l.number =
               some { l with release := none, sign := ({ l with release := none } : Lane).content, signPending := pending }) ∧
           (y.outstanding? p = none →
             { owner := .point p, station := q.station, order := .clearCall } ∈ y1.cmdQueue) ∧
           (∀ r, r ≠ p → (y1.point? r).map (fun q => { q with selection := false }) =
             (y.point? r).map (fun q => { q with selection := false })) ∧
           (∀ g, g ≠ f → y1.bus? g = y.bus? g ∧ y1.turn? g = y.turn? g) ∧
           (∀ k, (y.lanes.find? (fun l => l.release == some (f, .call))).map Lane.number ≠ some k → y1.lane? k = y.lane? k) ∧
           y1 =
             { y with
               fleet := y1.fleet, fuelPriority := y1.fuelPriority, fuelOrdinary := y1.fuelOrdinary
               washQueue := y1.washQueue, points := y1.points, lanes := y1.lanes, cmdQueue := y1.cmdQueue }))) ∧
    (let body := request 0x22 tag [kind, number]
     s.Takes body →
     (named = none → Refused .pointOpen s body .badValue) ∧
     (∀ p, named = some p → y.point? p = none → Refused .pointOpen s body .notFound) ∧
     (∀ p q, named = some p → y.point? p = some q →
       let lost := (y.station? q.station).map Station.state = some .lost
       (q.state = .closed → ¬ lost →
         ∃ y1, Taken .pointOpen s (s.withYard (y1.post e .pointUp 0 (some (.point p)) 6 0)) body [] ∧
           y1.point? p = some (freed y.frost q) ∧ pointsOnly p y1) ∧
       (q.state = .closed → lost →
         ∃ y1, Taken .pointOpen s (s.withYard (y1.post e .pointDown 0 (some (.point p)) 3 0)) body [] ∧
           y1.point? p = some { vacant .down (some .station) q with deferred := none } ∧ pointsOnly p y1) ∧
       (q.state = .down → ¬ lost →
         ∃ y1,
           Taken .pointOpen s
             (s.withYard ((y1.wantPoint p .clearCall).post e .pointUp 0 (some (.point p)) 7 0)) body [] ∧
           y1.point? p = some (freed y.frost { q with closePending := false, faults := 0 }) ∧ pointsOnly p y1) ∧
       (q.state = .down → lost → Refused .pointOpen s body .wrongState) ∧
       (q.state ≠ .closed → q.state ≠ .down →
         (q.closePending = true →
           Taken .pointOpen s (s.withYard (y.setPoint p (fun q => { q with closePending := false }))) body []) ∧
         (q.closePending = false → Refused .pointOpen s body .wrongState))))) ∧
  (∀ (e : Env) (y : Yard) (p : PointId) (q : Point), y.point? p = some q →
    let becomes (g : Point → Point) (z : Yard) : Yard := if q.bus.isSome then (z.setPoint p g).raise else z.setPoint p g
    y.freePoint p = becomes (freed y.frost) y ∧
    (∀ cause, y.downPoint e p cause =
      (becomes (fun q => { vacant .down (some cause) q with deferred := none }) y).post e .pointDown 0 (some (.point p))
        (match cause with | .host => 1 | .failed => 2 | .station => 3) 0) ∧
    y.withdrawCall p = ((y.setPoint p (fun q => { q with callTimer := none })).wantPoint p .clearCall).freePoint p ∧
    (∀ f t b, y.turn? f = some t → y.bus? f = some b →
      let returned := y.setTurn f (fun t => { t with status := .waiting })
      let residue := if t.status = .serving p then q.passesLeft else t.request.passes
      let ended :=
        ((y.setBus f (fun b =>
          { b with residue, washWanted := if residue = 0 then false else b.washWanted })).freeTurn f).post e .turnDone f
            (some (.point p)) residue (t.request.passes - residue)
      ((t.request.isWash && y.frost) = false →
        (b.wait = .called ∨ b.wait = .serving →
          y.returnTurn e p f = (returned.setBus f (fun b => { b with wait := .turn })).raise) ∧
        (b.wait ≠ .called → b.wait ≠ .serving → y.returnTurn e p f = returned.raise)) ∧
      ((t.request.isWash && y.frost) = true →
        (b.wait ∈ [.turn, .called, .serving] →
          y.returnTurn e p f =
            (ended.setBus f (fun b => { b with repeatCount := none })).advanceSteps e f 16 none (b.cursor.getD 0 + 1)) ∧
        (b.wait ∉ [.turn, .called, .serving] → y.returnTurn e p f = ended))))

/-- R91, R92. FROST_SET in its two settings: what no change leaves, and what a change leaves. On: the WASH queue walked from its oldest
entry, a WAITING or CALLED entry's step ended by frost (R85: the residue kept, the entry freed, TURN_DONE, the plan advanced), the call
of a CALLED one withdrawn first, and then each FREE wash lane FROZEN. -/
def Obligations.FrostSet : Prop :=
  ∀ (s : State) (tag setting : Byte), s.mode = .running →
    let body := request 0x24 tag [setting]
    let e := s.env
    let y := s.yard
    let vacant (state : PointState) (cause : Option DownCause) (q : Point) : Point :=
      { q with
        state, bus := none, callTimer := none, recoveryTimer := none, program := none, passesLeft := 0, retries := 0
        downCause := cause }
    let ended (f residue : Nat) (place : Option Place) (z : Yard) : Yard :=
      let z1 : Yard :=
        match z.turn? f with
        | none => z
        | some t =>
          ((z.setBus f (fun b =>
            { b with residue, washWanted := if residue = 0 then false else b.washWanted })).freeTurn f).post e .turnDone f
              place residue (t.request.passes - residue)
      match z1.bus? f with
      | none => z1
      | some b =>
        if b.wait = .turn ∨ b.wait = .called ∨ b.wait = .serving then
          (z1.setBus f (fun b => { b with repeatCount := none })).advanceSteps e f 16 none (b.cursor.getD 0 + 1)
        else z1
    let frosted (z : Yard) (t : PoolEntry) : Yard :=
      match t.status with
      | .waiting => ended t.bus t.request.passes none z
      | .called p =>
        ended t.bus t.request.passes (some (.point p))
          (((z.setPoint p (fun q => { q with callTimer := none })).releaseClaim t.bus .call).withdrawCall p)
      | .serving _ => z
    s.Takes body →
    (2 ≤ setting.toNat → Refused .frostSetOn s body .badValue) ∧
    (setting.toNat = 1 → y.frost = true → Taken .frostSetOn s s body []) ∧
    (setting.toNat = 0 → y.frost = false → Taken .frostSetOff s s body []) ∧
    (setting.toNat = 1 → y.frost = false →
      ∃ y1, Taken .frostSetOn s (s.withYard y1) body [] ∧
        (let walked := y.washQueue.foldl frosted { y with frost := true }
         y1 = { walked with
           points :=
             walked.points.map (fun q => if q.id.isWash = true ∧ q.state = .free then { q with state := .frozen } else q) }) ∧
        y1.frost = true ∧
        (∀ q ∈ y1.points, q.id.isWash = true → q.state ≠ .free) ∧
        (∀ t ∈ y1.washQueue, t ∈ y.washQueue ∧ ∃ p, t.status = .serving p) ∧
        SilentOn [.turnCalled, .callMissed] y y1 ∧
        y1.stations = y.stations ∧ y1.departures = y.departures ∧ y1.pullout = y.pullout ∧ y1.inFlight = y.inFlight) ∧
    (setting.toNat = 0 → y.frost = true →
      Taken .frostSetOff s
        (s.withYard
          { y with
            frost := false
            points := y.points.map (fun q =>
              if q.state = .frozen then
                if q.closePending then
                  { vacant .closed (some .host) q with closePending := false, deferred := none }
                else { vacant .free none q with selection := true }
              else q) })
        body [])

/-- R59, R60, R63, R64, R82. A selection event at a point: taken at a point that is not FREE, or with none raised; the scan of its
queues with the skips it leaves; and the call it makes. That an event not raised changes nothing is the model's choice (log 1), and so
is the one flag that several causes raise (log 9). -/
def Obligations.SelectionScans : Prop :=
  (∀ (s : State) (p : PointId), s.rstnLow = false →
    let c : Instr := match p with | .island n => .islandSelection n | .wash n => .washSelection n
    let e := s.env
    let y := s.yard
    (∀ q, y.point? p = some q → q.selection = false → exec c s = .next s) ∧
    (y.point? p = none → exec c s = .next s) ∧
    (∀ q, y.point? p = some q → q.selection = true →
      let y0 := y.setPoint p (fun q => { q with selection := false })
      let tested (t : PoolEntry) : Bool := t.status == .waiting && (p.isWash || q.serves t.request)
      let skip (t : PoolEntry) : PoolEntry := if tested t then { t with skip := min 255 (t.skip + 1) } else t
      let passed (t : PoolEntry) : Prop := tested t = true → y.callable p t.bus = false
      let first (queue before : List PoolEntry) (t : PoolEntry) (after : List PoolEntry) : Prop :=
        queue = before ++ t :: after ∧ (∀ x ∈ before, passed x) ∧ tested t = true ∧ y.callable p t.bus = true
      (q.state ≠ .free → exec c s = .next (s.withYard y0)) ∧
      (q.state = .free → p.isWash = true →
        (∀ before t after, first y.washQueue before t after →
          exec c s = .next (s.withYard
            (({ y0 with washQueue := before.map skip ++ t :: after } : Yard).callBus e p t.bus 3))) ∧
        ((∀ t ∈ y.washQueue, passed t) →
          exec c s = .next (s.withYard { y0 with washQueue := y.washQueue.map skip }))) ∧
      (q.state = .free → p.isWash = false →
        (∀ before t after, first y.fuelPriority before t after →
          exec c s = .next (s.withYard
            (({ y0 with fuelPriority := before.map skip ++ t :: after } : Yard).callBus e p t.bus 1))) ∧
        ((∀ t ∈ y.fuelPriority, passed t) →
          let y2 : Yard := { y0 with fuelPriority := y.fuelPriority.map skip }
          (∀ before t after, first y.fuelOrdinary before t after →
            exec c s = .next (s.withYard
              (({ y2 with fuelOrdinary := before.map skip ++ t :: after } : Yard).callBus e p t.bus 2))) ∧
          ((∀ t ∈ y.fuelOrdinary, passed t) →
            exec c s = .next (s.withYard { y2 with fuelOrdinary := y.fuelOrdinary.map skip })))))) ∧
  (∀ (y : Yard) (p : PointId) (f : Nat),
    y.callable p f = true ↔
      ∃ b, y.bus? f = some b ∧ b.wait = .turn ∧ (∀ q ∈ y.points, q.bus ≠ some f) ∧
        (b.position = .loose ∨ b.position = .atPoint p ∨
          ∃ m l, b.position = .inLane m ∧ y.lane? m = some l ∧ l.exitEnd = some f ∧ l.release = none ∧ l.hold = 0 ∧
            l.mismatch = false ∧ l.dark = false)) ∧
  (∀ (e : Env) (y : Yard) (p : PointId) (f code : Nat) (b : Bus) (q : Point) (t : PoolEntry),
    y.bus? f = some b → y.point? p = some q → y.turn? f = some t → b.wait = .turn → q.state = .free →
    y.outstanding? p = none →
    let z := y.callBus e p f code
    z.notices = y.notices.post e.clock .turnCalled f (some (.point p)) code b.position.laneOrZero ∧
    (b.position ≠ .atPoint p →
      z.point? p = some { q with state := .calling, bus := some f, callTimer := some (e.params.callWait * 60) } ∧
      (z.bus? f).map Bus.wait = some .called ∧ z.turn? f = some { t with status := .called p } ∧
      { owner := .point p, station := q.station, order := .call f } ∈ z.cmdQueue ∧
      (∀ n l, b.position = .inLane n → y.lane? n = some l → (z.lane? n).map Lane.release = some (some (f, .call)))) ∧
    (b.position = .atPoint p →
      (z.point? p).map Point.state = some .occupied ∧ (z.point? p).map Point.bus = some (some f) ∧
      (z.point? p).map Point.callTimer = some none ∧ (z.bus? f).map Bus.wait = some .serving ∧
      (z.turn? f).map PoolEntry.status = some (.serving p)))

/-- R66, R73, R88, R89. The expiries of a point's call timer and recovery timer; of the other points at most the selection flag changes
where a recovery timer takes a point DOWN. The model's choices: an expiry that finds no such timer
running does nothing (log 1), and one is taken at any seconds left (log 4). The lane in CALL_MISSED is log 30's choice. -/
def Obligations.PointTimersExpire : Prop :=
  ∀ (s : State) (p : PointId) (q : Point), s.rstnLow = false → s.yard.point? p = some q →
    let e := s.env
    let y := s.yard
    (q.state ≠ .calling ∨ q.callTimer = none → exec (.callTimerExpiry p) s = .next s) ∧
    (∀ f b t, q.state = .calling → q.callTimer.isSome → q.bus = some f → y.bus? f = some b → b.wait = .called →
      y.turn? f = some t →
      let missed := min 3 (b.missedCalls + 1)
      let y1 := ((y.setBus f (fun b => { b with missedCalls := min 3 (b.missedCalls + 1) })).releaseClaim f .call).post e .callMissed f
        (some (.point p)) missed b.position.laneOrZero
      let left := y1.freeTurn f
      let ends (z : Yard) : Prop :=
        exec (.callTimerExpiry p) s = .next (s.withYard ((z.wantPoint p .clearCall).freePoint p))
      let late : PoolEntry := { t with time := e.clock, status := .waiting }
      (2 ≤ b.missedCalls → ends (left.faulted e f .missedCalls (b.cursor.getD 0))) ∧
      (b.missedCalls < 2 → t.request.isWash = true →
        ends (({ left with washQueue := left.washQueue ++ [late] } : Yard).setWait f .turn).raise) ∧
      (b.missedCalls < 2 → t.request.isWash = false →
        ends (({ left with fuelOrdinary := left.fuelOrdinary ++ [late] } : Yard).setWait f .turn).raise)) ∧
    (let c : Instr := match p with | .island n => .islandRecoveryExpiry n | .wash n => .washRecoveryExpiry n
     let broken (q : Point) : Point :=
       { q with
         state := .down, bus := none, callTimer := none, recoveryTimer := none, program := none, passesLeft := 0
         retries := 0, downCause := some .failed, deferred := none }
     let set := y.setPoint p broken
     let z := if q.bus.isSome then set.raise else set
     let failed : Prop :=
       exec c s = .next (s.withYard (z.post e .pointDown 0 (some (.point p)) 2 0)) ∧ z = { y with points := z.points } ∧
         z.point? p = some (broken q) ∧
         ∀ r, r ≠ p → (z.point? r).map (fun q => { q with selection := false }) =
           (y.point? r).map (fun q => { q with selection := false })
     (q.state ≠ .recovering ∨ q.recoveryTimer = none → exec c s = .next s) ∧
     (q.state = .recovering → q.recoveryTimer.isSome →
       (p.isWash = false ∨ q.bus = none → failed) ∧
       (∀ f, p.isWash = true → q.bus = some f →
         (y.servingAt p f = false → failed) ∧
         (y.servingAt p f = true →
           exec c s = .next (s.withYard ((y.completeWash e f q.passesLeft (some (.point p))).downPoint e p .failed))))))

/-! ### Parking lanes -/

/-- R114. LANE_HOLD and LANE_UNHOLD; a held lane takes no reservation and accepts no claim; what stands when it is held is kept. -/
def Obligations.LanesHeld : Prop :=
  (∀ (s : State) (tag number : Byte) (kind : Nat) (c : Instr), (kind, c) ∈ [(0x29, Instr.laneHold), (0x2A, Instr.laneUnhold)] →
    let body := request kind tag [number]
    let n := number.toNat
    let e := s.env
    let y := s.yard
    let held (g : Nat → Nat) : Yard := (y.setLane n (fun l => { l with hold := g l.hold })).updateSign n
    s.Takes body →
    (s.mode = .unconfigured → Refused c s body .wrongMode) ∧
    (s.mode = .running → n < 1 ∨ 24 < n → Refused c s body .badValue) ∧
    (s.mode = .running → 1 ≤ n → n ≤ 24 → y.lane? n = none → Refused c s body .notFound) ∧
    (∀ l, s.mode = .running → 1 ≤ n → n ≤ 24 → y.lane? n = some l →
      (c = .laneHold → 15 ≤ l.hold → Refused c s body .wrongState) ∧
      (c = .laneHold → l.hold < 15 → Taken c s (s.withYard (held (· + 1))) body []) ∧
      (c = .laneUnhold → l.hold = 0 → Refused c s body .wrongState) ∧
      (c = .laneUnhold → l.hold = 1 → Taken c s (s.withYard ((held (· - 1)).rerunWaits e).raise) body []) ∧
      (c = .laneUnhold → 2 ≤ l.hold → Taken c s (s.withYard (held (· - 1))) body []) ∧
      (∀ g, ∃ pending, (held g).lane? n =
        some { l with hold := g l.hold, sign := ({ l with hold := g l.hold } : Lane).content, signPending := pending }))) ∧
  (∀ (y : Yard) (b : Bus) (l : Lane) (f : Nat), 0 < l.hold → y.usable b l = false ∧ l.claimable f = false)

/-- R113, R117, R134. The sign content of a lane, what a recomputation, a wanted SIGN and a requested CONFIRM_FRONT want of the lane's
one unsent command, what follows when that is taken for sending; and a claim accepted, written and released. -/
def Obligations.SignContentFollowsTheLane : Prop :=
  ∀ (y : Yard) (n : Nat) (l : Lane), y.lane? n = some l →
    let y1 := y.setLane n (fun l => { l with sign := l.content })
    l.content =
      { mode := if l.closed then .closed else if 0 < l.hold ∧ l.reservations = [] then .hold else .open
        expected1 := (l.reservations[0]?.map Reservation.bus).getD 0
        expected2 := (l.reservations[1]?.map Reservation.bus).getD 0
        expected3 := (l.reservations[2]?.map Reservation.bus).getD 0
        release := (l.release.map Prod.fst).getD 0 } ∧
    (l.content = l.sign → y.updateSign n = y) ∧
    (l.content ≠ l.sign →
      (y.unsent? (.lane n) = none → y.updateSign n = y1.queueCommand (.lane n) l.station (.sign l.content)) ∧
      (∀ c content, y.unsent? (.lane n) = some c → c.order = .sign content →
        y.updateSign n =
          { y1 with
            cmdQueue := y.cmdQueue.map (fun c => if c.owner = .lane n then { c with order := .sign l.content } else c) }) ∧
      (∀ c, y.unsent? (.lane n) = some c → c.order = .confirmFront →
        y.updateSign n = y1.setLane n (fun l => { l with signPending := true }))) ∧
    (y.unsent? (.lane n) = none →
      y.wantSign n = y.queueCommand (.lane n) l.station (.sign l.sign) ∧
      y.wantConfirm n = y.queueCommand (.lane n) l.station .confirmFront) ∧
    (∀ c, y.unsent? (.lane n) = some c →
      y.wantConfirm n = y.setLane n (fun l => { l with confirmPending := true }) ∧
      (∀ content, c.order = .sign content →
        y.wantSign n =
          { y with
            cmdQueue := y.cmdQueue.map (fun c => if c.owner = .lane n then { c with order := .sign l.sign } else c) }) ∧
      (c.order = .confirmFront → y.wantSign n = y.setLane n (fun l => { l with signPending := true }))) ∧
    (l.confirmPending = true →
      y.takenForSending n =
        (y.setLane n (fun l => { l with confirmPending := false })).queueCommand (.lane n) l.station .confirmFront) ∧
    (l.confirmPending = false → l.signPending = true →
      y.takenForSending n =
        (y.setLane n (fun l => { l with signPending := false })).queueCommand (.lane n) l.station (.sign l.sign)) ∧
    (l.confirmPending = false → l.signPending = false → y.takenForSending n = y) ∧
    (∀ f, l.claimable f = true ↔
      l.exitEnd = some f ∧ l.release = none ∧ l.hold = 0 ∧ l.mismatch = false ∧ l.dark = false) ∧
    (∀ f reason, y.writeClaim n f reason = (y.setLane n (fun l => { l with release := some (f, reason) })).updateSign n) ∧
    (∀ f reason, y.lanes.find? (fun l => l.release == some (f, reason)) = some l →
      y.releaseClaim f reason = ((y.setLane n (fun l => { l with release := none })).updateSign n).raise) ∧
    (∀ f reason, (∀ l ∈ y.lanes, l.release ≠ some (f, reason)) → y.releaseClaim f reason = y)

/-- R104 to R107, R109 to R112, R115, R118. LANE_CLOSE, LANE_OPEN and LANE_FORCE; the comparison of an OCCUPANCY with the occupied
places; and the other reports of a lane's station: ENTERED and EXITED in their rules' step order, TAG_SEEN, the withdrawal of a release,
the cancelling of a shunt, the capacity rule, a bus corrected out of a lane. The model's choices: bits 12 to 15 of the two force fields
are not read (log 22), where the berth wait list is re-run within an event (log 14), and that the withdrawal of a field whose shunt has
ended cancels none (log 31); the bus of a LANE_MISMATCH of causes 4 and 5 is deduced (log 28). -/
def Obligations.LanesClosedOpenedAndForced : Prop :=
  (∀ (s : State) (tag number : Byte) (mask value : Word), s.mode = .running →
    let n := number.toNat
    let y := s.yard
    let checks (c : Instr) (body : List Byte) : Prop :=
      (n < 1 ∨ 24 < n → Refused c s body .badValue) ∧
      (1 ≤ n → n ≤ 24 → y.lane? n = none → Refused c s body .notFound)
    let turned (closed : Bool) : Yard := (y.setLane n (fun l => { l with closed })).updateSign n
    (let body := request 0x2B tag [number]
     s.Takes body →
     checks .laneClose body ∧
     (∀ l, 1 ≤ n → n ≤ 24 → y.lane? n = some l →
       (l.closed = true → Taken .laneClose s s body []) ∧
       (l.closed = false → l.occupants = [] → l.reservations = [] →
         Taken .laneClose s (s.withYard (turned true)) body []) ∧
       (l.closed = false → l.occupants ≠ [] ∨ l.reservations ≠ [] → Refused .laneClose s body .wrongState))) ∧
    (let body := request 0x2C tag [number]
     s.Takes body →
     checks .laneOpen body ∧
     (∀ l, 1 ≤ n → n ≤ 24 → y.lane? n = some l →
       (l.closed = true → Taken .laneOpen s (s.withYard ((turned false).rerunWaits s.env)) body []) ∧
       (l.closed = false → Refused .laneOpen s body .wrongState))) ∧
    (let body := request 0x2D tag (number :: (u16 mask.toNat ++ u16 value.toNat))
     s.Takes body →
     checks .laneForce body ∧
     (∀ l, 1 ≤ n → n ≤ 24 → y.lane? n = some l →
       Taken .laneForce s
         (s.withYard (y.setLane n (fun l =>
           { l with forceMask := mask.setWidth 12, forceValue := value.setWidth 12 })))
         body []))) ∧
  (∀ (e : Env) (y : Yard) (n : Nat) (l : Lane) (mask : BitVec 12), y.lane? n = some l →
    let found (i : Nat) : Bool := if l.forceMask.getLsbD i then l.forceValue.getLsbD i else mask.getLsbD i
    let count := ((List.range 12).filter found).length
    let agreed := l.occupants.foldl (fun y f => y.setBus f (fun b => { b with age := e.params.sightingReload }))
      (y.setLane n (fun l => { l with mismatch := false }))
    (count = y.occupied l → l.mismatch = true → y.occupancy e n mask = (agreed.rerunWaits e).raise) ∧
    (count = y.occupied l → l.mismatch = false → y.occupancy e n mask = agreed) ∧
    (count ≠ y.occupied l → l.mismatch = true → y.occupancy e n mask = y) ∧
    (count ≠ y.occupied l → l.mismatch = false →
      y.occupancy e n mask =
        (y.setLane n (fun l => { l with mismatch := true })).post e .laneMismatch 0 (some (.lane n)) 1 count)) ∧
  (∀ (e : Env) (y : Yard) (n : Nat) (l : Lane), y.lane? n = some l →
    let unreserved (f : Nat) (l : Lane) : Lane := { l with reservations := l.reservations.filter (fun r => r.bus != f) }
    let cleared (z : Yard) : Yard := ((z.setLane n (fun l => { l with release := none })).updateSign n).raise
    let exits (f : Nat) (sanctioned : Bool) (z : Yard) : Yard :=
      match z.departure? f with
      | none => z
      | some d =>
        if sanctioned = true ∧ d.state = .released then
          z.setDeparture f (fun d => { d with state := .outbound, lapse := none })
        else z
    let shuntEnds (f : Nat) (z : Yard) : Yard :=
      match z.bus? f with
      | none => z
      | some c =>
        if c.wait = .entry then z.setBus f (fun c => { c with wait := c.shuntMarker.getD c.wait, shuntMarker := none }) else z
    let places (l : Lane) : Nat := (l.reservations.map Reservation.places).sum
    (∀ fleet cause quantity,
      y.setMismatch e n fleet cause quantity =
        if l.mismatch = true then y
        else
          (y.setLane n (fun l => { l with mismatch := true })).post e .laneMismatch fleet (some (.lane n)) cause quantity) ∧
    (∀ fleet,
      y.setOverfull e n fleet =
        if l.overfull = true then y
        else
          (y.setLane n (fun l => { l with overfull := true })).post e .laneOverfull fleet (some (.lane n)) 0 (y.occupied l)) ∧
    y.recheckOverfull n =
      (if l.overfull = true ∧ y.occupied l ≤ l.capacity then y.setLane n (fun l => { l with overfull := false }) else y) ∧
    (∀ f,
      let out := y.setLane n (fun l => { l with occupants := l.occupants.filter (· != f) })
      let freed := if l.release.map Prod.fst = some f then cleared out else out
      let told := exits f (decide (l.release = some (f, .depart))) freed
      let settled := ((told.recountInversions e n).recheckOverfull n).updateSign n
      y.leaveLane e f n = if l.exitEnd = some f then settled.raise else settled) ∧
    (∀ f code was,
      let ends (m : Nat) (z : Yard) : Yard :=
        shuntEnds f ((z.releaseClaim f .shunt).post e .entryLapsed f (some (.lane m)) code 0)
      (∀ m r, y.reservation? f = some (m, r) → r.kind = .shunt →
        y.cancelShunt e f code was = ends m ((y.setLane m (unreserved f)).updateSign m)) ∧
      ((∀ m r, y.reservation? f = some (m, r) → r.kind = .park) →
        (∀ m, was = some m → y.cancelShunt e f code was = ends m y) ∧ (was = none → y.cancelShunt e f code was = y))) ∧
    (∀ removed,
      (l.release = none → y.withdrawRelease e n removed = y) ∧
      (∀ g, l.release = some (g, .depart) →
        ((∀ d, (cleared y).departure? g = some d → d.state ≠ .released) → y.withdrawRelease e n removed = cleared y) ∧
        (∀ d, (cleared y).departure? g = some d → d.state = .released →
          y.withdrawRelease e n removed =
            ((cleared y).setDeparture g (fun d => { d with state := .due, lapse := none })).post e .releaseWithdrawn g
              (some (.lane n)) 0 d.slot)) ∧
      (∀ g, l.release = some (g, .call) →
        ((cleared y).callingPoint? g = none → y.withdrawRelease e n removed = cleared y) ∧
        (∀ q, (cleared y).callingPoint? g = some q →
          y.withdrawRelease e n removed = ((cleared y).returnTurn e q.id g).withdrawCall q.id)) ∧
      (∀ g, l.release = some (g, .shunt) →
        (∀ m, removed = some (g, m) → y.withdrawRelease e n removed = (cleared y).cancelShunt e g 5 (some m)) ∧
        ((∀ m, removed ≠ some (g, m)) → y.withdrawRelease e n removed = (cleared y).cancelShunt e g 5 none))) ∧
    (∀ k ev,
      Yard.evict e n 0 (y, ev) = (y, ev) ∧
      (l.reservations = [] ∨ y.occupied l + places l ≤ l.capacity → Yard.evict e n (k + 1) (y, ev) = (y, ev)) ∧
      (∀ (older : List Reservation) (r : Reservation), l.reservations = older ++ [r] → l.capacity < y.occupied l + places l →
        (r.kind = .park →
          Yard.evict e n (k + 1) (y, ev) =
            Yard.evict e n k
              ((y.setLane n (unreserved r.bus)).post e .entryLapsed r.bus (some (.lane n)) 4 0,
                { count := ev.count + 1, reruns := ev.reruns ++ [(r.bus, r.lapses)] })) ∧
        (r.kind = .shunt →
          Yard.evict e n (k + 1) (y, ev) =
            Yard.evict e n k (y.cancelShunt e r.bus 4 none, { count := ev.count + 1, reruns := ev.reruns })))) ∧
    (∀ f,
      let done := Yard.evict e n l.reservations.length (y, { count := 0, reruns := [] })
      (y.occupied l ≤ l.capacity → y.capacityRule e n f = done) ∧
      (l.capacity < y.occupied l → y.capacityRule e n f = (done.1.setOverfull e n f, done.2))) ∧
    (∀ r : Report,
      let f := r.fleet
      let goes (z : Yard) : Prop := y.ownerReport e (some (.lane n)) r = z
      let shunting (g : Nat) : Bool := (y.reservation? g).any (fun h => h.2.kind == .shunt)
      let shunts : Bool := l.release.any (fun r => r.2 == .shunt && shunting r.1)
      (r.kind ∉ [.entered, .exited, .occupancy, .tagSeen] → goes y) ∧
      (r.kind = .occupancy → goes (y.occupancy e n r.mask)) ∧
      (r.kind = .tagSeen →
        (y.bus? f = none → goes (y.setMismatch e n 0 5 0)) ∧
        (y.bus? f ≠ none → l.exitEnd ≠ some f → goes (y.setMismatch e n f 5 0)) ∧
        (y.bus? f ≠ none → l.exitEnd = some f → goes y)) ∧
      (r.kind = .exited → y.bus? f = none → goes (y.setMismatch e n 0 3 0)) ∧
      (r.kind = .entered → y.bus? f = none →
        let marked := y.setMismatch e n 0 4 0
        (l.kind = .through → goes marked) ∧
        (l.kind = .blind →
          goes (if shunts = true then (marked.withdrawRelease e n none).rerunWaits e
            else marked.withdrawRelease e n none))) ∧
      (∀ b, r.kind = .exited → y.bus? f = some b →
        let out :=
          (y.setLane n (fun l => { l with occupants := l.occupants.filter (· != f) })).setBus f (fun b =>
            { b with position := .loose })
        let loose := if b.wait = .turn then out.raise else out
        let gone :=
          if b.position ≠ .inLane n then y.setMismatch e n f 3 0
          else if l.exitEnd = some f then loose
          else loose.setMismatch e n f 2 0
        let reason (r : ReleaseReason) : Nat := match r with | .depart => 1 | .call => 2 | .shunt => 3
        let freed :=
          if l.release.map Prod.fst = some f then cleared gone
          else
            gone.post e .unsanctionedExit f (some (.lane n)) ((l.release.map (fun r => reason r.2)).getD 0)
              ((l.release.map Prod.fst).getD 0)
        let told := exits f (decide (l.release = some (f, .depart))) freed
        let settled := (((told.recountInversions e n).recheckOverfull n).updateSign n).rerunWaits e
        goes
          (if (b.position = .inLane n ∧ l.exitEnd = some f) ∨ l.release.map Prod.fst = some f then settled.raise
          else settled)) ∧
      (∀ b, r.kind = .entered → y.bus? f = some b →
        let held := y.reservation? f
        let apart :=
          (y.reportPosition e false f (.inLane n)).setLane n (fun l => { l with occupants := l.occupants.filter (· != f) })
        let open_ : Yard :=
          match held with
          | none => apart
          | some (m, _) =>
            if m = n then apart.setLane n (unreserved f) else (apart.setLane m (unreserved f)).updateSign m
        let inside :=
          open_.setLane n (fun l =>
            { l with occupants := if l.kind = .through then l.occupants ++ [f] else f :: l.occupants })
        let boxed : Bool :=
          (l.kind == .blind || l.occupants.contains f) &&
            (inside.lane? n).any (fun m => (m.release.map Prod.fst).any (fun g => m.occupants.head? != some g))
        let told :=
          if boxed = true then inside.withdrawRelease e n (if shunting f then held.map (fun h => (f, h.1)) else none)
          else inside
        let own : Bool := held.any (fun h => h.1 == n)
        let fitted := if own = true then (told, { count := 0, reruns := [] }) else told.capacityRule e n f
        let stands := ((fitted.1.lane? n).map fitted.1.occupied).getD 0
        let noticed :=
          match held with
          | none => fitted.1.post e .unplannedEntry f (some (.lane n)) b.position.code stands
          | some (m, r) =>
            if m = n then fitted.1.post e .parked f (some (.lane n)) (match r.kind with | .park => 1 | .shunt => 2) stands
            else fitted.1.post e .mispark f (some (.lane n)) m fitted.2.count
        let settled := (noticed.recountInversions e n).updateSign n
        let planned : Yard :=
          match held with
          | none => settled
          | some (_, r) =>
            if r.kind = .shunt then shuntEnds f settled
            else
              match settled.bus? f with
              | none => settled
              | some c => if c.wait = .entry then settled.advanceSteps e f 16 none (c.cursor.getD 0 + 1) else settled
        let rerun :=
          fitted.2.reruns.foldl (fun (z : Yard) d =>
            match z.bus? d.1 with
            | none => z
            | some c => if c.wait = .entry then z.advanceSteps e d.1 16 (some d.2) (c.cursor.getD 0) else z) planned
        let leaves : Bool :=
          b.position.lane?.any (· != n) || held.any (fun h => h.1 != n) ||
            (boxed && shunts) || decide (0 < fitted.2.count)
        let waited := if leaves = true then rerun.rerunWaits e else rerun
        goes (if (inside.lane? n).map Lane.exitEnd = some l.exitEnd then waited else waited.raise))))

/-- R60, R97, R103, R106, R107, R110, R113, R117 to R119. LANE_SET: the checks in order; the taking by its seven steps, with the re-runs
and selection events at its end; and what that leaves of the lane and of the listed and unlisted buses. The model's choices: where the
berth wait list is re-run (log 14), the fleet 0 of the LANE_OVERFULL of step 5 (log 15), that a field whose shunt has ended is
withdrawn with no shunt cancelled (log 31), and the order of several listed buses in step 1 (log 33). -/
def Obligations.LaneSet : Prop :=
  ∀ (s : State) (tag number : Byte) (listed : List Word), s.mode = .running → listed.length ≤ 118 →
    let body := request 0x2E tag (number :: (u8 listed.length ++ (listed.map (fun f => u16 f.toNat)).flatten))
    let n := number.toNat
    let y := s.yard
    let inRange := 1 ≤ n ∧ n ≤ 24 ∧ listed.length ≤ 12 ∧ (∀ f ∈ listed, fleetValid f) ∧ listed.Nodup
    s.Takes body →
    (¬ inRange → Refused .laneSet s body .badValue) ∧
    (inRange → y.lane? n = none ∨ (∃ f ∈ listed, y.bus? f.toNat = none) → Refused .laneSet s body .notFound) ∧
    (∀ l, inRange → y.lane? n = some l → (∀ f ∈ listed, (y.bus? f.toNat).isSome) →
      let bad := l.hold = 0 ∨
        ∃ f ∈ listed, (y.bus? f.toNat).map Bus.wait = some .called ∨ (y.bus? f.toNat).map Bus.wait = some .serving
      (bad → Refused .laneSet s body .wrongState) ∧
      (¬ bad →
        let e := s.env
        let fleets := listed.map (fun f => f.toNat)
        let placed (pos : Position) (z : Yard) (f : Nat) : Yard :=
          match z.bus? f with
          | none => z
          | some b =>
            let set := z.setBus f (fun b => { b with position := pos })
            if pos = .loose ∧ b.position ≠ .loose ∧ b.wait = .turn then set.raise else set
        let left (z : Yard) (f : Nat) : Yard :=
          match (z.bus? f).map Bus.position with
          | some (.inLane m) => if m = n then z else z.leaveLane e f m
          | _ => z
        let unreserved (z : Yard) (f : Nat) : Yard :=
          match z.reservation? f with
          | none => z
          | some (m, r) =>
            let dropped :=
              (z.setLane m (fun l => { l with reservations := l.reservations.filter (fun r => r.bus != f) })).updateSign m
            let freed := if r.kind = .shunt then dropped.releaseClaim f .shunt else dropped
            match freed.bus? f with
            | none => freed
            | some c =>
              if c.wait ≠ .entry then freed
              else if r.kind = .shunt then
                freed.setBus f (fun c => { c with wait := c.shuntMarker.getD c.wait, shuntMarker := none })
              else freed.advanceSteps e f 16 none (c.cursor.getD 0 + 1)
        let unlisted := l.occupants.filter (fun f => decide (f ∉ fleets))
        let step1 := fleets.foldl unreserved (fleets.foldl left y)
        let step2 := unlisted.foldl (placed .loose) step1
        let step3 := fleets.foldl (placed (.inLane n)) (step2.setLane n (fun l => { l with occupants := fleets }))
        let boxed : Bool := (step3.lane? n).any (fun m => m.release.any (fun r => m.occupants.head? != some r.1))
        let step4 := if boxed = true then step3.withdrawRelease e n none else step3
        let agreed := step4.setLane n (fun l => { l with mismatch := false })
        let step5 : Yard :=
          match agreed.lane? n with
          | none => agreed
          | some m => if m.capacity < agreed.occupied m then agreed.setOverfull e n 0 else agreed.recheckOverfull n
        let step6 := step5.capacityRule e n 0
        let step7 := (step6.1.recountInversions e n).updateSign n
        let rerun :=
          step6.2.reruns.foldl (fun (z : Yard) d =>
            match z.bus? d.1 with
            | none => z
            | some c => if c.wait = .entry then z.advanceSteps e d.1 16 (some d.2) (c.cursor.getD 0) else z) step7
        let cancelled :=
          boxed = true ∧ ∃ m g h r, step3.lane? n = some m ∧ m.release = some (g, .shunt) ∧
            step3.reservation? g = some (h, r) ∧ r.kind = .shunt
        let due :=
          (∃ f ∈ fleets, ∃ b k, y.bus? f = some b ∧ b.position = .inLane k ∧ k ≠ n) ∨
            (∃ f ∈ fleets, y.reservation? f ≠ none) ∨ unlisted ≠ [] ∨ cancelled ∨ l.mismatch = true ∨ 0 < step6.2.count
        ∃ y1, Taken .laneSet s (s.withYard y1) body [] ∧
          (due → y1 = (rerun.rerunWaits e).raise) ∧ (¬ due → y1 = rerun.raise) ∧
          (y1.lane? n).map Lane.occupants = some (listed.map (fun f => f.toNat)) ∧
          (y1.lane? n).map Lane.mismatch = some false ∧
          (y1.lane? n).map Lane.overfull =
            some (decide (l.capacity < ((listed.map (fun f => y.busPlaces f.toNat)).sum))) ∧
          (∀ f ∈ listed, (y1.bus? f.toNat).map Bus.position = some (.inLane n)) ∧
          (∀ f ∈ l.occupants, (∀ g ∈ listed, g.toNat ≠ f) →
            (y1.bus? f).map Bus.position = (y.bus? f).map (fun _ => .loose)) ∧
          SilentOn [.positionCorrected, .parked, .mispark, .unplannedEntry, .laneMismatch] y y1 ∧
          y1.stations = y.stations ∧ y1.departures.map Departure.bus = y.departures.map Departure.bus ∧
          y1.pullout = y.pullout ∧ y1.pacing = y.pacing ∧ y1.frost = y.frost ∧ y1.inFlight = y.inFlight))

/-- R98, R113, R118. SHUNT: the checks, and the claim, the marker and the reservation it leaves. -/
def Obligations.Shunted : Prop :=
  ∀ (s : State) (tag number : Byte) (fleet : Word), s.mode = .running →
    let body := request 0x2F tag (u16 fleet.toNat ++ [number])
    let f := fleet.toNat
    let n := number.toNat
    let e := s.env
    let y := s.yard
    let inRange := fleetValid fleet ∧ 1 ≤ n ∧ n ≤ 24
    s.Takes body →
    (¬ inRange → Refused .shunt s body .badValue) ∧
    (inRange → y.bus? f = none ∨ y.lane? n = none → Refused .shunt s body .notFound) ∧
    (∀ b target, inRange → y.bus? f = some b → y.lane? n = some target →
      let usable := target.closed = false ∧ target.hold = 0 ∧ target.mismatch = false ∧ target.dark = false ∧
        (b.length.places : Int) ≤ (target.capacity : Int) - y.occupied target - target.reserved ∧
        (b.fuelKind = .gas → target.gas = true)
      let leaves (m : Nat) (l : Lane) : Prop := b.position = .inLane m ∧ y.lane? m = some l ∧ m ≠ n ∧ l.claimable f = true
      let may := (b.wait = .noPlan ∨ b.wait = .ended) ∧ usable ∧ ∃ m l, leaves m l
      (¬ may → Refused .shunt s body .wrongState) ∧
      (∀ m l, may → leaves m l →
        ∃ y1, Taken .shunt s (s.withYard y1) body [] ∧
          (y1.lane? m).map Lane.release = some (some (f, .shunt)) ∧
          (y1.lane? n).map Lane.reservations =
            some (target.reservations ++
              [{ bus := f, places := b.length.places, kind := .shunt, entryTimer := some (e.params.entryWait * 60)
                 lapses := 0 }]) ∧
          y1.bus? f = some { b with wait := .entry, shuntMarker := some b.wait } ∧
          (∀ g, g ≠ f → y1.bus? g = y.bus? g) ∧
          (∀ k, k ≠ m → k ≠ n → y1.lane? k = y.lane? k) ∧
          y1.notices = y.notices.post e.clock .berthAssigned f (some (.lane n)) 4 0 ∧
          y1 = { y with fleet := y1.fleet, lanes := y1.lanes, cmdQueue := y1.cmdQueue, notices := y1.notices }))

/-- R47, R98 to R102. A PARK step fetched by an advance: the lane the lane map chooses, the reservation made there, and the berth wait
list when there is none. `mark` is the lapses count of a step that is run again. -/
def Obligations.ParkSteps : Prop :=
  ∀ (e : Env) (y : Yard) (f a n : Nat) (mark : Option Nat) (arg : Option Nat) (b : Bus),
    y.bus? f = some b → b.repeatCount = none → a ≤ 511 → e.plan.read a = some (.park arg) →
    let here := y.setBus f (fun b => { b with cursor := some a })
    let go := y.advanceSteps e f (n + 1) mark a
    let usable (l : Lane) : Prop :=
      l.closed = false ∧ l.hold = 0 ∧ l.mismatch = false ∧ l.dark = false ∧
        (b.length.places : Int) ≤ y.freePlaces l ∧ (b.fuelKind = .gas → l.gas = true)
    let key (g : Nat) : Nat := ((y.departure? g).map Departure.slot).getD 1440
    let neighbour (l : Lane) : Option Nat :=
      (l.reservations.getLast?.map Reservation.bus).or
        (if l.kind = .through then l.occupants.getLast? else l.occupants.head?)
    let gap (l : Lane) (g : Nat) : Prop :=
      (neighbour l = none ∧ g = 1441) ∨
        (∃ nb, neighbour l = some nb ∧ l.kind = .through ∧ key nb ≤ key f ∧ g = key f - key nb) ∨
        (∃ nb, neighbour l = some nb ∧ l.kind = .blind ∧ key f ≤ key nb ∧ g = key nb - key f)
    let reserved (l : Lane) (code quantity : Nat) : Prop :=
      go =
        (((here.setLane l.number (fun l =>
          { l with
            reservations := l.reservations ++
              [{ bus := f, places := b.length.places, kind := .park, entryTimer := some (e.params.entryWait * 60)
                 lapses := mark.getD 0 }] })).setBus f (fun b => { b with wait := .entry })).updateSign l.number).post e
          .berthAssigned f (some (.lane l.number)) code quantity
    let waits (code : Nat) : Prop :=
      go =
        (({ here with waits := y.waits ++ [{ bus := f, lane := arg, lapses := mark.getD 0 }] } : Yard).setBus f (fun b =>
          { b with wait := .berth })).post e .noBerth f (arg.map Place.lane) code 0
    (∀ m, arg = some m →
      (∀ l, y.lane? m = some l → usable l → reserved l 3 0) ∧
      (∀ l, y.lane? m = some l → ¬ usable l → waits 2) ∧
      (y.lane? m = none → waits 3)) ∧
    (arg = none →
      (∀ before l after g, y.lanes = before ++ l :: after → usable l → gap l g →
        (∀ x ∈ before, ∀ h, usable x → gap x h → g < h) → (∀ x ∈ after, ∀ h, usable x → gap x h → g ≤ h) →
        reserved l 1 g) ∧
      ((∀ x ∈ y.lanes, ∀ h, ¬ (usable x ∧ gap x h)) →
        (e.params.invertAllowed = false → waits 1) ∧
        ((∀ x ∈ y.lanes, ¬ usable x) → waits 1) ∧
        (∀ before l after, e.params.invertAllowed = true → y.lanes = before ++ l :: after → usable l →
          (∀ x ∈ before, usable x → y.freePlaces x < y.freePlaces l) →
          (∀ x ∈ after, usable x → y.freePlaces x ≤ y.freePlaces l) → reserved l 2 0)))

/-- R108, R135. The entry timer of a reservation and the release lapse timer of an entry expire. The model's choices: an expiry that
finds no such timer running does nothing (log 1), and one is taken at any seconds left (log 4). -/
def Obligations.LapsesExpire : Prop :=
  ∀ (s : State) (f : Nat), s.rstnLow = false →
    let e := s.env
    let y := s.yard
    (y.reservation? f = none → exec (.entryTimerExpiry f) s = .next s) ∧
    (∀ n r, y.reservation? f = some (n, r) → r.entryTimer = none → exec (.entryTimerExpiry f) s = .next s) ∧
    (y.departure? f = none → exec (.releaseLapseExpiry f) s = .next s) ∧
    (∀ n r b, y.reservation? f = some (n, r) → r.entryTimer.isSome → y.bus? f = some b → b.wait = .entry →
      let lapsed (code : Nat) : Yard :=
        ((y.setLane n (fun l => { l with reservations := l.reservations.filter (fun r => r.bus != f) })).updateSign n).post e
          .entryLapsed f (some (.lane n)) code 0
      let ends (z : Yard) : Prop := exec (.entryTimerExpiry f) s = .next (s.withYard (z.rerunWaits e))
      (r.kind = .park → r.lapses = 0 → ends ((lapsed 1).advanceSteps e f 16 (some 1) (b.cursor.getD 0))) ∧
      (r.kind = .park → r.lapses ≠ 0 → ends ((lapsed 2).faulted e f .parkTimeout (b.cursor.getD 0))) ∧
      (r.kind = .shunt →
        ends (((lapsed 3).releaseClaim f .shunt).setBus f (fun b =>
          { b with wait := b.shuntMarker.getD b.wait, shuntMarker := none })))) ∧
    (∀ d, y.departure? f = some d →
      (d.state ≠ .released ∨ d.lapse = none → exec (.releaseLapseExpiry f) s = .next s) ∧
      (d.state = .released → d.lapse.isSome →
        let lane := (y.lanes.find? (fun l => l.release == some (f, .depart))).map (fun l => Place.lane l.number)
        let stands := ((y.bus? f).bind (fun b => b.position.lane?)).map Place.lane
        exec (.releaseLapseExpiry f) s =
          .next (s.withYard
            (((y.releaseClaim f .depart).setDeparture f (fun d => { d with state := .due, lapse := none })).post e
              .releaseLapsed f (lane.or stands) 0 d.slot))))

/-! ### Morning pull-out -/

/-- R97, R103, R122 to R126. SLOT_ADD, SLOT_REMOVE, SLOT_MOVE: the checks in order, the place of a new or moved entry, and the key change
handed. What a key change does: the inversions of the bus's lane recounted, LANE_DISORDER when they leave 0, and the berth wait list
re-run, each entry tried as its PARK step would be and left where it stands when it gets no berth. "Berth granted" is taken in BERTH alone
(R49). -/
def Obligations.SlotsChanged : Prop :=
  (∀ (e : Env) (y : Yard) (f : Nat),
    let key (g : Nat) : Nat := ((y.departure? g).map Departure.slot).getD 1440
    let retried (z : Yard) (w : BerthWait) : Yard :=
      match z.bus? w.bus with
      | none => z
      | some b =>
        let left : Yard := { z with waits := z.waits.filter (fun v => v.bus != w.bus) }
        let tried := left.berthRequest e b w.lane w.lapses
        if tried.waits ≠ left.waits then z
        else if b.wait = .berth then tried
        else tried.setBus w.bus (fun c => { c with wait := b.wait })
    (∀ n l, y.lane? n = some l →
      let pairs := (l.occupants.zip (l.occupants.drop 1)).filter (fun p => decide (key p.2 < key p.1))
      let count := min 11 pairs.length
      let counted := y.setLane n (fun l => { l with inversions := count })
      (l.inversions = 0 → 0 < count →
        y.recountInversions e n = counted.post e .laneDisorder 0 (some (.lane n)) 0 count) ∧
      (l.inversions ≠ 0 ∨ count = 0 → y.recountInversions e n = counted)) ∧
    (∀ l, y.lanes.find? (fun l => l.occupants.contains f) = some l →
      y.keyChanged e f = (y.recountInversions e l.number).rerunWaits e) ∧
    ((∀ l ∈ y.lanes, f ∉ l.occupants) → y.keyChanged e f = y.rerunWaits e) ∧
    y.rerunWaits e = y.waits.foldl retried y ∧
    (∀ b arg a n mark, y.bus? f = some b → b.repeatCount = none → a ≤ 511 → e.plan.read a = some (.park arg) →
      y.advanceSteps e f (n + 1) mark a =
        (y.setBus f (fun b => { b with cursor := some a })).berthRequest e b arg (mark.getD 0))) ∧
  (∀ (s : State) (tag : Byte) (fleet slot : Word), s.mode = .running →
    let f := fleet.toNat
    let m := slot.toNat
    let y := s.yard
    let listed (departures : List Departure) : State :=
      s.withYard (({ y with departures } : Yard).keyChanged s.env f)
    let placed (d : Departure) (l : List Departure) : List Departure :=
      l.takeWhile (fun x => x.slot ≤ d.slot) ++ d :: l.dropWhile (fun x => x.slot ≤ d.slot)
    let others := y.departures.filter (fun d => d.bus != f)
    let leaving (d : Departure) : Prop := d.state = .released ∨ d.state = .outbound
    (let body := request 0x30 tag (u16 f ++ u16 m)
     s.Takes body →
     (¬ fleetValid fleet ∨ 1439 < m → Refused .slotAdd s body .badValue) ∧
     (fleetValid fleet → m ≤ 1439 → y.bus? f = none → Refused .slotAdd s body .notFound) ∧
     (fleetValid fleet → m ≤ 1439 → (y.bus? f).isSome → (y.departure? f).isSome → Refused .slotAdd s body .exists_) ∧
     (fleetValid fleet → m ≤ 1439 → (y.bus? f).isSome → y.departure? f = none →
       ∃ mark, (∀ x ∈ y.departures, x.mark < mark) ∧
         Taken .slotAdd s
           (listed (placed { slot := m, bus := f, state := .waiting, mark, noticeSent := false, lapse := none }
             y.departures))
           body [])) ∧
    (let body := request 0x31 tag (u16 f)
     s.Takes body →
     (¬ fleetValid fleet → Refused .slotRemove s body .badValue) ∧
     (fleetValid fleet → y.bus? f = none ∨ y.departure? f = none → Refused .slotRemove s body .notFound) ∧
     (∀ d, fleetValid fleet → (y.bus? f).isSome → y.departure? f = some d →
       (leaving d → Refused .slotRemove s body .wrongState) ∧
       (¬ leaving d → Taken .slotRemove s (listed others) body []))) ∧
    (let body := request 0x32 tag (u16 f ++ u16 m)
     s.Takes body →
     (¬ fleetValid fleet ∨ 1439 < m → Refused .slotMove s body .badValue) ∧
     (fleetValid fleet → m ≤ 1439 → y.bus? f = none ∨ y.departure? f = none → Refused .slotMove s body .notFound) ∧
     (∀ d, fleetValid fleet → m ≤ 1439 → (y.bus? f).isSome → y.departure? f = some d →
       (leaving d → Refused .slotMove s body .wrongState) ∧
       (¬ leaving d →
         ∃ mark, (∀ x ∈ y.departures, x.mark < mark) ∧
           Taken .slotMove s
             (listed (placed { d with slot := m, mark, state := .waiting, noticeSent := false } others)) body []))))

/-- R127. PULLOUT_START and PULLOUT_STOP change the pull-out mode and the pacing timer alone. -/
def Obligations.PullOutStartedAndStopped : Prop :=
  ∀ (s : State) (tag : Byte), s.mode = .running →
    (let body := request 0x33 tag []
     s.Takes body →
     (s.yard.pullout = true → Refused .pulloutStart s body .wrongState) ∧
     (s.yard.pullout = false →
       Taken .pulloutStart s
         (s.withYard { s.yard with pullout := true, pacing := some s.env.params.pacingInterval }) body [])) ∧
    (let body := request 0x34 tag []
     s.Takes body →
     (s.yard.pullout = false → Refused .pulloutStop s body .wrongState) ∧
     (s.yard.pullout = true →
       Taken .pulloutStop s (s.withYard { s.yard with pullout := false, pacing := none }) body []))

/-- R128 to R134. A pacing expiry: the head's due time, Table 7-3's cases, the swap search, a swap, a release. The model's choices: an
expiry in OFF or with no timer running does nothing (log 1), and one is taken at any seconds left (log 4). -/
def Obligations.PacingExpires : Prop :=
  ∀ s : State, s.rstnLow = false →
    let e := s.env
    let ends (z : Yard) : Prop := exec .pacingExpiry s = .next (s.withYard z)
    let unreleased (d : Departure) : Bool := d.state != .released && d.state != .outbound
    (s.yard.pullout = false ∨ s.yard.pacing = none → exec .pacingExpiry s = .next s) ∧
    (s.yard.pullout = true → s.yard.pacing.isSome →
      let y : Yard := { s.yard with pacing := some e.params.pacingInterval }
      (y.departures.find? unreleased = none → ends y) ∧
      (∀ d b, y.departures.find? unreleased = some d → y.departure? d.bus = some d → y.bus? d.bus = some b →
        let f := d.bus
        let due := (d.slot - e.params.dueLead) * 60
        let takes (state : DepartureState) : Yard := y.setDeparture f (fun d => { d with state })
        let releases (x : Nat) (n slot : Nat) (z : Yard) : Yard :=
          ((z.writeClaim n x .depart).setDeparture x (fun d =>
            { d with state := .released, noticeSent := false, lapse := some (e.params.releaseLapse * 60) })).post e
              .released x (some (.lane n)) 0 slot
        let finished (b : Bus) : Prop := b.wait = .ended ∨ b.wait = .noPlan
        let behind := (((y.departures.dropWhile (fun d => d.bus != f)).drop 1).filter unreleased).take e.params.swapWindow
        let qualifies (x : Departure) (n : Nat) : Prop :=
          ∃ c l, y.bus? x.bus = some c ∧ finished c ∧ c.position = .inLane n ∧ y.lane? n = some l ∧
            l.claimable x.bus = true ∧ 0 < c.age ∧ c.routeClass = b.routeClass
        let exchanged (c : Nat) (x : Departure) : Departure :=
          if x.bus = f then { x with bus := c }
          else if x.bus = c then { x with bus := f, state := .waiting, noticeSent := false, lapse := none }
          else x
        let kept (state : DepartureState) (confirm : Yard → Yard) : Prop :=
          (∀ before x after n, behind = before ++ x :: after → (∀ z ∈ before, ∀ m, ¬ qualifies z m) → qualifies x n →
            ends
              (releases x.bus n d.slot
                (((({ y with departures := y.departures.map (exchanged x.bus) } : Yard).post e .swapped x.bus
                  (some (.lane n)) b.routeClass f).keyChanged e x.bus).keyChanged e f))) ∧
          ((∀ z ∈ behind, ∀ m, ¬ qualifies z m) →
            (d.noticeSent = true → ends (confirm (takes state))) ∧
            (d.noticeSent = false →
              ends (confirm (((takes state).post e .headBlocked f (b.position.lane?.map Place.lane) state.code d.slot).setDeparture f
                (fun d => { d with noticeSent := true })))))
        (e.clock < due → ends (takes .waiting)) ∧
        (due ≤ e.clock →
          (¬ finished b → kept .late id) ∧
          (finished b → (∀ n, b.position ≠ .inLane n) → kept .late id) ∧
          (∀ n l, finished b → b.position = .inLane n → y.lane? n = some l →
            (l.exitEnd ≠ some f → kept .blocked id) ∧
            (l.exitEnd = some f → l.claimable f = false → ends (takes .due)) ∧
            (l.claimable f = true → b.age = 0 → kept .confirming (Yard.wantConfirm n)) ∧
            (l.claimable f = true → 0 < b.age → ends (releases f n d.slot y))))))

/-! ### The yard line and event rounds -/

/-- R144, R153 to R155, R181. LINE_ASK queued or turned away, and the end of an ask's answer window: the ask leaves its queue and
ASK_RESULT carries its outcome, GARBLED where the last two bytes are not the check of the rest. Operations: 1 TEST, 2 READ, 3 WRITE
(log 18, deduced). The model's choices: an answer outside a window changes nothing (R143, log 1), one with YLDE still high ends the frame
too (log 10), and the ask goes on holding the line until the idle wait ends (log 36). -/
def Obligations.AsksQueuedAndAnswered : Prop :=
  (∀ (s : State) (tag address op item : Byte) (value : Word),
    let body := request 0x38 tag ([address, op, item] ++ u16 value.toNat)
    let inRange := 1 ≤ address.toNat ∧ address.toNat ≤ 63 ∧ 1 ≤ op.toNat ∧ op.toNat ≤ 3 ∧ (op.toNat = 3 ∨ value.toNat = 0)
    let ask : Ask :=
      { tag, address := address.toNat, op := if op.toNat = 1 then .test else if op.toNat = 2 then .read else .write
        item := item.toNat, value := value.toNat }
    s.Takes body →
    (¬ inRange → Refused .lineAsk s body .badValue) ∧
    (inRange → 2 ≤ s.line.asks.length → Refused .lineAsk s body .busy) ∧
    (inRange → s.line.asks.length < 2 →
      Taken .lineAsk s { s with line := { s.line with asks := s.line.asks ++ [ask] } } body [])) ∧
  (∀ (s : State) (a : Ask) (rest : List Ask), s.rstnLow = false → s.line.holder = some .ask → s.line.phase = .window →
    s.line.asks = a :: rest → 1 ≤ a.address → a.address ≤ 63 →
    let e := s.env
    let answered (fields : List Byte) : AnswerWindow := .answer ((lineFrame fields).map RxChar.byte) true
    let ends (w : AnswerWindow) (y : Yard) (code quantity : Nat) : Prop :=
      exec (.askAnswer w) s = .next { s with
        line := { s.line with phase := .idleWait, ylde := false, asks := rest }
        yard := y.post e .askResult a.tag.toNat none code quantity }
    let heard := s.yard.stationValid e a.address
    ends .silent s.yard 3 0 ∧
    (∀ chars, ends (.answer chars false) s.yard 4 0) ∧
    (∀ chars, RxChar.framingError ∈ chars → ends (.answer chars true) s.yard 4 0) ∧
    (∀ (fields : List Byte) (high low : Byte), [high, low] ≠ crcBytes (crc16 fields) →
      ends (.answer ((fields ++ [high, low]).map RxChar.byte) true) s.yard 4 0) ∧
    (∀ bytes : List Byte, bytes ≠ [] → bytes.length < 4 → ends (.answer (bytes.map RxChar.byte) true) s.yard 4 0) ∧
    (∀ value : Word, ends (answered (u8 a.address ++ u8 4 ++ u16 value.toNat)) heard 1 value.toNat) ∧
    (∀ status : Byte, 1 ≤ status.toNat → ends (answered (u8 a.address ++ u8 3 ++ [status])) heard 2 status.toNat) ∧
    (∀ (kind : Byte) (payload : List Byte),
      (kind.toNat ≠ 3 ∧ kind.toNat ≠ 4) ∨ (kind.toNat = 3 ∧ (payload.length ≠ 1 ∨ payload = [0#8])) ∨
          (kind.toNat = 4 ∧ payload.length ≠ 2) →
        ends (answered (u8 a.address ++ kind :: payload)) s.yard 4 0) ∧
    (∀ address kind : Byte, ∀ payload, address.toNat ≠ a.address →
      ends (answered (address :: kind :: payload)) s.yard 4 0)) ∧
  (∀ (s : State) (w : AnswerWindow), s.line.holder ≠ some .ask ∨ s.line.phase ≠ .window → exec (.askAnswer w) s = .next s)

/-- R61, R81, R144, R149, R152, R153, R181. The end of a command attempt's answer window: the outcome handed to the owner, one retry, and
the health of the station; an answer whose last two bytes are not the check of the rest is GARBLED; a NOT_READY of a point's command is a
fault of the point; and what a point's wanted command does: queued, or deferred behind one outstanding. The model's choices: with no
window open an answer changes nothing (R143; for the event without a window, log 1), one with YLDE still high ends the frame too (log 10),
and a command that has ended goes on holding the line until the idle wait ends (log 36). -/
def Obligations.CommandsAnswered : Prop :=
  (∀ (s : State) (g : InFlight), s.rstnLow = false → s.line.holder = some .command → s.line.phase = .window →
    s.yard.inFlight = some g → 1 ≤ g.command.station → g.command.station ≤ 63 →
    let e := s.env
    let c := g.command
    let a := c.station
    let answered (fields : List Byte) : AnswerWindow := .answer ((lineFrame fields).map RxChar.byte) true
    let ends (w : AnswerWindow) (y : Yard) : Prop :=
      exec (.commandAnswer w) s = .next { s with line := { s.line with phase := .idleWait, ylde := false }, yard := y }
    let failed (w : AnswerWindow) : Prop :=
      let y1 := s.yard.stationFailure e a
      ends w (if g.retry then y1.endCommand e c .failed else { y1 with inFlight := some { command := c, retry := true } })
    failed .silent ∧
    (∀ chars, failed (.answer chars false)) ∧
    (∀ chars, RxChar.framingError ∈ chars → failed (.answer chars true)) ∧
    (∀ (fields : List Byte) (high low : Byte), [high, low] ≠ crcBytes (crc16 fields) →
      failed (.answer ((fields ++ [high, low]).map RxChar.byte) true)) ∧
    (∀ bytes : List Byte, bytes ≠ [] → bytes.length < 4 → failed (.answer (bytes.map RxChar.byte) true)) ∧
    ends (answered (u8 a ++ u8 2)) ((s.yard.stationValid e a).endCommand e c .accepted) ∧
    (∀ status : Byte, 1 ≤ status.toNat →
      ends (answered (u8 a ++ u8 3 ++ [status])) ((s.yard.stationValid e a).endCommand e c (.notReady status.toNat))) ∧
    (∀ (kind : Byte) (payload : List Byte),
      (kind.toNat ≠ 2 ∧ kind.toNat ≠ 3) ∨ (kind.toNat = 2 ∧ payload ≠ []) ∨
          (kind.toNat = 3 ∧ (payload.length ≠ 1 ∨ payload = [0#8])) →
        failed (answered (u8 a ++ kind :: payload))) ∧
    (∀ address kind : Byte, ∀ payload, address.toNat ≠ a → failed (answered (address :: kind :: payload)))) ∧
  (∀ (e : Env) (y : Yard) (n : Nat) (a : Nat),
    let ended : Yard := { y with inFlight := none }
    (∀ content,
      y.endCommand e { owner := .lane n, station := a, order := .sign content } .accepted =
        ended.setLane n (fun l => { l with lastSign := some content })) ∧
    (∀ content o, o ≠ .accepted →
      y.endCommand e { owner := .lane n, station := a, order := .sign content } o = ended) ∧
    (∀ o, y.endCommand e { owner := .lane n, station := a, order := .confirmFront } o = ended)) ∧
  (∀ (e : Env) (y : Yard) (p : PointId) (q : Point) (c : LineCommand) (o : CommandOutcome),
    y.point? p = some q → c.owner = .point p → o = .accepted ∨ o = .failed →
    (q.deferred = none → y.endCommand e c o = { y with inFlight := none }) ∧
    (∀ order, q.deferred = some order →
      y.endCommand e c o =
        (({ y with inFlight := none } : Yard).setPoint p (fun q => { q with deferred := none })).queueCommand (.point p)
          q.station order)) ∧
  (∀ (e : Env) (y : Yard) (p : PointId) (c : LineCommand) (status : Nat), c.owner = .point p →
    let ended : Yard := { y.pointFaulted e p status 2 with inFlight := none }
    ∀ q, ended.point? p = some q →
      (q.deferred = none → y.endCommand e c (.notReady status) = ended) ∧
      (∀ order, q.deferred = some order →
        y.endCommand e c (.notReady status) =
          (ended.setPoint p (fun q => { q with deferred := none })).queueCommand (.point p) q.station order)) ∧
  (∀ (y : Yard) (p : PointId) (q : Point) (order : Order), y.point? p = some q →
    let outstanding :=
      (∃ c ∈ y.cmdQueue, c.owner = .point p) ∨ (∃ g, y.inFlight = some g ∧ g.command.owner = .point p)
    (q.state = .down → y.wantPoint p order = y) ∧
    (q.state ≠ .down → outstanding → y.wantPoint p order = y.setPoint p (fun q => { q with deferred := some order })) ∧
    (q.state ≠ .down → ¬ outstanding →
      y.wantPoint p order = { y with cmdQueue := y.cmdQueue ++ [{ owner := .point p, station := q.station, order }] })) ∧
  (∀ (s : State) (w : AnswerWindow), s.line.holder ≠ some .command ∨ s.line.phase ≠ .window →
    exec (.commandAnswer w) s = .next s)

/-- R144, R163 to R168, R181, Table 11-10. The end of a round poll's answer window: SILENT, GARBLED (a bad check among its causes) and
VALID, with the group on top of the stack, and the report read from the payload's bytes. The model's choices: the TAKEN is owed until the
idle wait ends (log 11), an address or payload out of its ranges is GARBLED in the cases of log 19 too, an answer without a window changes
nothing (R143; log 1), one with YLDE still high ends the frame too (log 10), and a round that has ended goes on holding the line until the
idle wait ends (log 36). -/
def Obligations.RoundPollsAnswered : Prop :=
  (∀ (s : State) (g : Group) (rest : List Group), s.rstnLow = false → s.line.holder = some .round → s.line.phase = .window →
    s.rounds.stack = g :: rest →
    let r := s.rounds
    let popped : Rounds :=
      if rest = [] then { r with active := none, count := 0, garbles := 0, stack := [], taken := none }
      else { r with stack := rest, garbles := 0 }
    let ends (w : AnswerWindow) (y : Yard) (r : Rounds) : Prop :=
      exec (.roundPollAnswer w) s =
        .next { s with line := { s.line with phase := .idleWait, ylde := false }, yard := y, rounds := r }
    let garbled (w : AnswerWindow) : Prop :=
      (g.len < 6 →
        ends w s.yard
          { r with
            stack := { len := g.len + 1, bits := 2 * g.bits } :: { len := g.len + 1, bits := 2 * g.bits + 1 } :: rest
            garbles := 0 }) ∧
      (6 ≤ g.len →
        ends w (s.yard.stationFailure s.env g.bits) (if 1 ≤ r.garbles then popped else { r with garbles := r.garbles + 1 }))
    let answered (fields : List Byte) : AnswerWindow := .answer ((lineFrame fields).map RxChar.byte) true
    let kinds : List ReportKind :=
      [.arrived, .left, .atPoint, .pointFault, .exited, .tagSeen, .entered, .occupancy, .serviceStarted, .fuelDone, .washDone,
       .pointClear, .pointReady]
    ends .silent s.yard popped ∧
    (∀ chars, garbled (.answer chars false)) ∧
    (∀ chars, RxChar.framingError ∈ chars → garbled (.answer chars true)) ∧
    (∀ (fields : List Byte) (high low : Byte), [high, low] ≠ crcBytes (crc16 fields) →
      garbled (.answer ((fields ++ [high, low]).map RxChar.byte) true)) ∧
    (∀ bytes : List Byte, bytes ≠ [] → bytes.length < 4 → garbled (.answer (bytes.map RxChar.byte) true)) ∧
    (∀ (address kind : Byte) (payload : List Byte),
      kind ≠ 1#8 ∨ address.toNat < 1 ∨ 63 < address.toNat ∨ address.toNat / 2 ^ (6 - g.len) ≠ g.bits ∨ payload.length < 6 →
        garbled (answered (address :: kind :: payload))) ∧
    (∀ (address flags code : Byte) (fleet quantity : Word) (tail : List Byte),
      let w := answered (address :: 1#8 :: flags :: code :: (u16 fleet.toNat ++ u16 quantity.toNat ++ tail))
      let fits := flags.toNat < 8 ∧ 1 ≤ code.toNat ∧ code.toNat ≤ 13 ∧ fleet.toNat ≤ 9999 ∧
        quantity.toNat ≤ (if code.toNat = 4 then 255 else 9999) ∧ (flags.toNat < 4 → quantity.toNat = 0)
      let read (mask : Nat) : Prop :=
        1 ≤ address.toNat → address.toNat ≤ 63 → address.toNat / 2 ^ (6 - g.len) = g.bits →
          let more : Bool := flags.getLsbD 1
          let report : Report :=
            { turn := flags.getLsbD 0, more, kind := kinds.getD (code.toNat - 1) .arrived, fleet := fleet.toNat
              quantity := quantity.toNat, mask := BitVec.ofNat 12 mask }
          ends w ((s.yard.stationValid s.env address.toNat).routeReport s.env address.toNat report)
            { r with taken := some { address := address.toNat, pop := decide (g.len = 6 ∧ more = false) } }
      (¬ fits → garbled w) ∧
      (code.toNat ≠ 8 → (tail ≠ [] → garbled w) ∧ (fits → tail = [] → read 0)) ∧
      (code.toNat = 8 →
        (tail.length ≠ 2 → garbled w) ∧
        (∀ mask : Word, tail = u16 mask.toNat →
          (4096 ≤ mask.toNat → garbled w) ∧ (fits → mask.toNat < 4096 → read mask.toNat))))) ∧
  (∀ (s : State) (w : AnswerWindow), s.line.holder ≠ some .round ∨ s.line.phase ≠ .window →
    exec (.roundPollAnswer w) s = .next s)

/-- R143, R147, R148, R161, R163, R164, R168, R169. What the arbiter grants the free line to, and how an idle wait ends; YLDE is high for
a master frame and low with the line free; the order and argument bytes of a COMMAND (Tables 8-3, 11-8). The model's choices: the TAKEN
goes out at the idle wait's end (log 11), a grant of a held line, an end of no idle wait and a grant with nothing to send change nothing
(log 1), and YLDE stays high until a step on the empty queue or the event after the frame, here the end of a TAKEN's idle wait (log 10). -/
def Obligations.LineGrantedAndHeld : Prop :=
  (let low (v : Nat) : Byte := BitVec.ofNat 8 v
   let word (v : Nat) : List Byte := [low (v / 256), low v]
   (∀ c : SignContent,
     (Order.sign c).bytes =
       1 :: (match c.mode with | .open => 0 | .hold => 1 | .closed => 2) ::
         (word c.expected1 ++ word c.expected2 ++ word c.expected3 ++ word c.release)) ∧
   Order.confirmFront.bytes = [2] ∧
   (∀ fleet, (Order.call fleet).bytes = 3 :: word fleet) ∧
   Order.clearCall.bytes = [4] ∧
   Order.resetPoint.bytes = [5] ∧
   (∀ program, (Order.startPass program).bytes = [6, low program])) ∧
  ∀ s : State, s.rstnLow = false →
    let r := s.rounds
    let sends (holder : LineHolder) (fields : List Byte) : Line :=
      { s.line with holder := some holder, phase := .window, ylde := true, frame := lineFrame fields }
    let freed : Line := { s.line with holder := none, phase := .free, ylde := false }
    let begins (c : RoundClass) (due : Rounds) : Prop :=
      exec .lineGrant s = .next { s with
        rounds := { due with active := some c, count := 1, garbles := 0, stack := [{ len := 0, bits := 0 }], taken := none }
        line := sends .round (u8 0 ++ u8 1 ++ u8 (if c = .urgent then 1 else 2)) }
    (s.line.phase ≠ .free → exec .lineGrant s = .next s) ∧
    (s.line.phase = .free →
      (r.urgentDue = true → begins .urgent { r with urgentDue := false }) ∧
      (∀ c rest, r.urgentDue = false → s.yard.cmdQueue = c :: rest →
        let y : Yard := { s.yard with cmdQueue := rest, inFlight := some { command := c, retry := false } }
        exec .lineGrant s = .next { s with
          yard := match c.owner with | .lane n => y.takenForSending n | .point _ => y
          line := sends .command (u8 c.station ++ u8 4 ++ c.order.bytes) }) ∧
      (∀ a rest, r.urgentDue = false → s.yard.cmdQueue = [] → s.line.asks = a :: rest →
        exec .lineGrant s = .next { s with
          line :=
            sends .ask
              (u8 a.address ++ u8 5 ++ u8 (match a.op with | .test => 1 | .read => 2 | .write => 3) ++ u8 a.item ++
                u16 a.value) }) ∧
      (r.urgentDue = false → s.yard.cmdQueue = [] → s.line.asks = [] →
        (r.routineDue = true → begins .routine { r with routineDue := false }) ∧
        (r.routineDue = false → exec .lineGrant s = .next s))) ∧
    (s.line.phase ≠ .idleWait → exec .lineIdleWaitEnd s = .next s) ∧
    (s.line.phase = .idleWait →
      (s.line.holder = none ∨ s.line.holder = some .ask →
        exec .lineIdleWaitEnd s = .next { s with line := freed }) ∧
      (s.line.holder = some .command →
        (s.yard.inFlight = none → exec .lineIdleWaitEnd s = .next { s with line := freed }) ∧
        (∀ g, s.yard.inFlight = some g →
          exec .lineIdleWaitEnd s = .next { s with
            line := sends .command (u8 g.command.station ++ u8 4 ++ g.command.order.bytes) })) ∧
      (s.line.holder = some .round →
        (∀ t, r.taken = some t →
          let counted : Rounds := { r with count := r.count + 1, taken := none }
          exec .lineIdleWaitEnd s = .next { s with
            line := { s.line with phase := .idleWait, ylde := true, frame := lineFrame (u8 t.address ++ u8 3) }
            rounds :=
              if t.pop then
                if r.stack.drop 1 = [] then { counted with active := none, count := 0, garbles := 0, stack := [] }
                else { counted with stack := r.stack.drop 1, garbles := 0 }
              else counted }) ∧
        (r.taken = none → r.active = none → exec .lineIdleWaitEnd s = .next { s with line := freed }) ∧
        (∀ c, r.taken = none → r.active = some c →
          (96 ≤ r.count →
            exec .lineIdleWaitEnd s = .next { s with
              line := freed
              yard := s.yard.post s.env .roundCut 0 none (if c = .urgent then 1 else 2) r.stack.length
              rounds := { r with active := none, count := 0, garbles := 0, stack := [] } }) ∧
          (∀ g rest, r.count < 96 → r.stack = g :: rest →
            exec .lineIdleWaitEnd s = .next { s with
              line :=
                sends .round
                  (if g.len = 0 then u8 0 ++ u8 1 ++ u8 (if c = .urgent then 1 else 2)
                   else u8 0 ++ u8 2 ++ u8 g.len ++ u8 g.bits)
              rounds := { r with count := r.count + 1 } }))))

/-- R116, R156, R157, R160, R170. LINE_RESTART: YLDE low, the exchange cut, the round abandoned, asks and commands discarded, stations
UNKNOWN, LINE_RESTARTED with what was discarded, and the owners' re-issues. The model's choices: after a cut exchange the idle line is
awaited, and the line is not free before (log 12); a frame cut while YLDE was high was not sent whole (logs 10, 12). -/
def Obligations.LineRestarted : Prop :=
  ∀ (s : State) (tag : Byte),
    let body := request 0x39 tag []
    let e := s.env
    let y := s.yard
    let running := s.mode == .running
    let asks := s.line.asks
    let reset : Yard :=
      { y with
        cmdQueue := [], inFlight := none
        lanes := y.lanes.map (fun l => { l with signPending := false, confirmPending := false })
        points := y.points.map (fun q => { q with deferred := none })
        stations := y.stations.map (fun t => { t with state := .unknown, failures := 0, turnBit := none }) }
    let told : Yard :=
      (asks.foldl (fun z a => z.post e .askResult a.tag.toNat none 5 0) reset).post e .lineRestarted 0 none asks.length
        (y.cmdQueue.length + (if y.inFlight.isSome then 1 else 0))
    let lane (z : Yard) (n : Nat) : Yard :=
      match z.lane? n with
      | none => z
      | some l => if l.dark = true then z.laneAlive e n else z.wantSign n
    let point (z : Yard) (p : PointId) : Yard :=
      match z.point? p with
      | none => z
      | some q =>
        if q.state = .calling then z.wantPoint p (.call (q.bus.getD 0))
        else if q.state = .recovering then z.wantPoint p .resetPoint
        else if q.state = .occupied then
          match q.program with
          | some program => z.wantPoint p (.startPass program)
          | none => z
        else z
    s.yard.Bounded s.env.params → s.Takes body →
    ∃ y1 : Yard,
      Taken .lineRestart s
        { s with
          line :=
            { holder := none, phase := if s.line.phase = .free then .free else .idleWait, ylde := false
              frame := if s.line.ylde = true then [] else s.line.frame, asks := [] }
          rounds :=
            { s.rounds with
              active := none, count := 0, garbles := 0, stack := [], taken := none
              urgentDue := running || s.rounds.urgentDue, routineDue := running || s.rounds.routineDue }
          yard := y1 }
        body [] ∧
      (let lanesTold := (y.lanes.map Lane.number).foldl lane told
       y1 = (y.points.map Point.id).foldl point lanesTold) ∧
      y1.inFlight = none ∧
      y1.stations = y.stations.map (fun t => { t with state := .unknown, failures := 0, turnBit := none }) ∧
      (∀ n l, y1.lane? n = some l → l.dark = false) ∧
      (∀ l ∈ y.lanes, ∃ c ∈ y1.cmdQueue, c.owner = .lane l.number ∧ ∃ content, c.order = .sign content) ∧
      (∀ p q f, y1.point? p = some q → q.state = .calling → q.bus = some f →
        ∃ c ∈ y1.cmdQueue, c.owner = .point p ∧ c.order = .call f) ∧
      (∀ p q, y1.point? p = some q → q.state = .recovering → ∃ c ∈ y1.cmdQueue, c.owner = .point p ∧ c.order = .resetPoint) ∧
      (∀ p q program, y1.point? p = some q → q.state = .occupied → q.program = some program →
        ∃ c ∈ y1.cmdQueue, c.owner = .point p ∧ c.order = .startPass program) ∧
      y1.notices.tallies.getD 40 0 = min 65535 (y.notices.tallies.getD 40 0 + s.line.asks.length) ∧
      y1.notices.tallies.getD 41 0 = min 65535 (y.notices.tallies.getD 41 0 + 1) ∧
      y1.departures = y.departures ∧ y1.pullout = y.pullout ∧ y1.frost = y.frost ∧ y1.fuelPriority = y.fuelPriority ∧
      y1.fuelOrdinary = y.fuelOrdinary ∧ y1.washQueue = y.washQueue

/-- R22 to R27, R60, R76, R94, R116, R138, R150 to R153. The health of a station, failures counted to 3 and LOST, and a VALID answer; what
a lane and a point do when their station is lost and alive; a collected report routed: the repeat check, the bus it names, and the owner of
the station's object; the positions that reports set and correct (Table 2-4); and the gate's ARRIVED and LEFT. The model's choices: a bus
in TURN raises the selection event of R60 ("a bus whose plan wait is TURN takes the position LOOSE") when its position becomes LOOSE from
another one, so that a gate ARRIVED of a LOOSE bus raises none (log 9); a LEFT whose entry is still RELEASED leaves it (log 24); and a
correction out of a lane re-runs the berth wait list within it where the flag says so (log 14). -/
def Obligations.StationHealthAndReports : Prop :=
  (∀ (e : Env) (y : Yard) (a : Nat) (t : Station), y.station? a = some t →
      let owner (g : Yard → Yard) (l : Nat → Yard → Yard) (p : PointId → Yard → Yard) : Yard → Yard :=
        match t.served with
        | none => g
        | some (.lane n) => l n
        | some (.point q) => p q
      let count := min 3 (t.failures + 1)
      let heard := y.setStation a (fun t => { t with failures := 0, state := .alive })
      let told := owner id (fun n => Yard.laneAlive e n) (fun p => Yard.pointStationAlive e p)
      (count < 3 ∨ t.state = .lost → y.stationFailure e a = y.setStation a (fun t => { t with failures := count })) ∧
      (count = 3 → t.state ≠ .lost →
        y.stationFailure e a =
          owner id Yard.laneDark (fun p => Yard.pointStationLost e p)
            ((y.setStation a (fun t => { t with failures := 3, state := .lost })).post e .stationLost 0 t.served t.kind.code
              a)) ∧
      (t.state = .alive → y.stationValid e a = heard) ∧
      (t.state = .unknown → y.stationValid e a = told heard) ∧
      (t.state = .lost → y.stationValid e a = told (heard.post e .stationBack 0 t.served t.kind.code a))) ∧
  (∀ (e : Env) (y : Yard) (a : Nat) (r : Report),
    (y.station? a = none → y.routeReport e a r = y) ∧
    (∀ t, y.station? a = some t →
      let y1 := y.setStation a (fun t => { t with turnBit := some r.turn })
      let known := (y.bus? r.fleet).isSome
      let needsBus := r.kind ∈ [.arrived, .left, .atPoint, .entered, .exited, .tagSeen]
      let notAtGate := t.kind = .gate ∧ r.kind ≠ .arrived ∧ r.kind ≠ .left
      (t.turnBit = some r.turn → y.routeReport e a r = y) ∧
      (t.turnBit ≠ some r.turn → notAtGate → y.routeReport e a r = y1) ∧
      (t.turnBit ≠ some r.turn → ¬ notAtGate →
        (known →
          y.routeReport e a r =
            (y1.setBus r.fleet (fun b => { b with age := e.params.sightingReload })).ownerReport e t.served r) ∧
        (¬ known → r.fleet = 0 → ¬ needsBus → y.routeReport e a r = y1.ownerReport e t.served r) ∧
        (¬ known → r.fleet ≠ 0 ∨ needsBus →
          y.routeReport e a r =
            (y1.post e .unknownBus r.fleet t.served r.kind.code a).ownerReport e t.served r)))) ∧
  (∀ (e : Env) (y : Yard) (n : Nat) (l : Lane), y.lane? n = some l →
    y.laneDark n = y.setLane n (fun l => { l with dark := true }) ∧
    (l.dark = true →
      y.laneAlive e n = (((y.setLane n (fun l => { l with dark := false })).wantSign n).rerunWaits e).raise) ∧
    (l.dark = false → y.laneAlive e n = y)) ∧
  (∀ (e : Env) (y : Yard) (p : PointId) (q : Point), y.point? p = some q →
    let stopped := y.setPoint p (fun q => { q with callTimer := none })
    let out := q.state = .closed ∨ q.state = .down
    let ours := q.state = .down ∧ q.downCause = some .station
    let shut :=
      y.setPoint p (fun q =>
        { q with
          state := .closed, bus := none, callTimer := none, recoveryTimer := none, program := none, passesLeft := 0
          retries := 0, closePending := false, downCause := some .host, deferred := none })
    (out → y.pointStationLost e p = y) ∧
    (¬ out → y.pointStationLost e p = (y.undoTurn e p).downPoint e p .station) ∧
    (q.bus = none → y.undoTurn e p = stopped) ∧
    (∀ f, q.bus = some f →
      (y.turn? f = none → y.undoTurn e p = stopped) ∧
      (∀ t, y.turn? f = some t →
        (t.status = .called p → y.undoTurn e p = (stopped.releaseClaim f .call).returnTurn e p f) ∧
        (t.status = .serving p → y.undoTurn e p = stopped.returnTurn e p f) ∧
        (t.status ≠ .called p → t.status ≠ .serving p → y.undoTurn e p = stopped))) ∧
    (¬ ours → y.pointStationAlive e p = y) ∧
    (ours → q.closePending = true → y.pointStationAlive e p = if q.bus.isSome then shut.raise else shut) ∧
    (ours → q.closePending = false →
      y.pointStationAlive e p = ((y.freePoint p).wantPoint p .clearCall).post e .pointUp 0 (some (.point p)) 7 0)) ∧
  (∀ (e : Env) (y : Yard) (f : Nat) (b : Bus), y.bus? f = some b →
    let code (pos : Position) : Nat :=
      match pos with
      | .outside => 0 | .loose => 1 | .inLane n => 10 + n | .atPoint (.island n) => 40 + n | .atPoint (.wash n) => 50 + n
    let loose := y.setBus f (fun b => { b with position := .loose })
    (∀ (pos : Position) (rerun : Bool),
      let placed (z : Yard) : Yard :=
        match z.bus? f with
        | none => z
        | some c =>
          let set := z.setBus f (fun b => { b with position := pos })
          if pos = .loose ∧ c.position ≠ .loose ∧ c.wait = .turn then set.raise else set
      let stands := b.position ≠ pos ∧ b.position ≠ .loose ∧ (b.position = .outside → pos ≠ .loose)
      let place : Option Place :=
        match pos with
        | .outside | .loose => none
        | .inLane n => some (.lane n)
        | .atPoint p => some (.point p)
      let gone : Yard :=
        match b.position with
        | .inLane m => if rerun = true then (y.leaveLane e f m).rerunWaits e else y.leaveLane e f m
        | .outside | .loose | .atPoint _ => y
      (¬ stands → y.reportPosition e rerun f pos = placed y) ∧
      (stands →
        y.reportPosition e rerun f pos = (placed gone).post e .positionCorrected f place (code pos) (code b.position))) ∧
    (∀ p,
      (b.position ≠ .atPoint p → y.reportCleared p f = y) ∧
      (b.position = .atPoint p → y.reportCleared p f = if b.wait = .turn then loose.raise else loose)) ∧
    (∀ r : Report, r.fleet = f →
      let arrived := (y.reportPosition e true f .loose).post e .busArrived f none (code b.position) 0
      let left := y.reportPosition e true f .outside
      let removed : Yard := { left with departures := left.departures.filter (fun d => d.bus != f) }
      (r.kind ≠ .arrived → r.kind ≠ .left → y.ownerReport e none r = y) ∧
      (r.kind = .arrived →
        (¬ b.wait.Idle → y.ownerReport e none r = arrived) ∧
        (b.wait.Idle → b.homePlan = none → y.ownerReport e none r = arrived.post e .noPlan f none 0 0) ∧
        (∀ a, b.wait.Idle → b.homePlan = some a →
          y.ownerReport e none r =
            (arrived.setBus f (fun b =>
              { b with stack := [], repeatCount := none, fault := none, cursor := some a })).advanceSteps e f 16 none a)) ∧
      (r.kind = .left →
        (left.departure? f = none → y.ownerReport e none r = left) ∧
        (∀ d, left.departure? f = some d →
          (d.state = .outbound →
            y.ownerReport e none r = (removed.post e .departed f none 0 d.slot).keyChanged e f) ∧
          (d.state = .released → y.ownerReport e none r = left) ∧
          (d.state ≠ .outbound → d.state ≠ .released →
            y.ownerReport e none r = (removed.post e .unscheduledExit f none d.state.code d.slot).keyChanged e f))))) ∧
  (∀ (e : Env) (y : Yard) (r : Report), y.bus? r.fleet = none → y.ownerReport e none r = y)

/-! ### Service reports -/

/-- R67 to R73, R83 to R90. The reports of islands and wash lanes: AT_POINT with the taking of a bus, the takeover and the wrong bus,
SERVICE_STARTED, FUEL_DONE, WASH_DONE, POINT_CLEAR, POINT_READY, and a fault. FUEL_DONE and WASH_DONE in other states than OCCUPIED and
SERVING add to the night tally alone, which saturates at 16,777,215 tenths at an island and 65,535 passes at a wash lane (Tables 4-3,
5-2); fuel in tenths is rounded to whole units, a half to the even number. The model's choices: a fault undoes
a call before it wants RESET_POINT (log 34), and a FREE point withdraws a call of the bus elsewhere before it takes it (log 37). -/
def Obligations.ServiceReports : Prop :=
  ∀ (e : Env) (y : Yard) (p : PointId) (q : Point), y.point? p = some q →
    let serves := q.state = .occupied ∨ q.state = .serving
    let limit : Nat := match p with | .island _ => 16777215 | .wash _ => 65535
    let goes (state : PointState) (z : Yard) : Yard := z.setPoint p (fun q => { q with state })
    let ended (f residue : Nat) (passes : Nat) (z : Yard) : Yard :=
      (((z.setBus f (fun b =>
        { b with residue, washWanted := if residue = 0 then false else b.washWanted })).freeTurn f).post e .turnDone f
          (some (.point p)) residue (passes - residue)).advancePast e f
    (∀ f,
      (y.servingAt p f = true ↔
        ∃ t b, y.turn? f = some t ∧ t.status = .serving p ∧ y.bus? f = some b ∧ b.wait = .serving) ∧
      (∀ b, y.bus? f = some b →
        y.advancePast e f =
          (y.setBus f (fun b => { b with repeatCount := none })).advanceSteps e f 16 none (b.cursor.getD 0 + 1))) ∧
    (∀ r : Report,
      let f := r.fleet
      let is (z : Yard) : Prop := y.ownerReport e (some (.point p)) r = z
      let of := if f = 0 then q.bus else some f
      let moved : Yard := match of with | none => y | some g => y.reportCleared p g
      (r.kind ∈ [.arrived, .left, .exited, .tagSeen, .entered, .occupancy] → is y) ∧
      (r.kind = .atPoint →
        (y.bus? f = none → is y) ∧
        (y.bus? f ≠ none → is ((y.reportPosition e true f (.atPoint p)).pointArrival e p f))) ∧
      (r.kind = .pointFault → is (y.pointFaulted e p r.quantity 1)) ∧
      (r.kind = .serviceStarted → (q.state = .occupied → is (goes .serving y)) ∧ (q.state ≠ .occupied → is y)) ∧
      (r.kind = .fuelDone → is (if p.isWash = true then y else y.fuelDone e p r.quantity)) ∧
      (r.kind = .washDone → is (if p.isWash = true then y.washDone e p else y)) ∧
      (r.kind = .pointClear → is (moved.pointClear e p (if f = 0 then none else some f))) ∧
      (r.kind = .pointReady → is (y.pointReady e p))) ∧
    (∀ f,
      let offered (k : FuelKind) : Prop :=
        p.isWash = false ∧
          (q.offers = some .both ∨ (q.offers = some .diesel ∧ k = .diesel) ∨ (q.offers = some .gas ∧ k = .gas))
      let qualifies :=
        ∃ t b, y.turn? f = some t ∧ (match t.request with | .fuel k => offered k | .wash _ _ => p.isWash = true) ∧
          y.bus? f = some b ∧ (b.wait = .turn ∨ b.wait = .called) ∧
          ∀ r ∈ y.points, r.id = p ∨ r.bus ≠ some f ∨ r.state = .calling
      let elsewhere (z : Yard) : Yard :=
        match z.callingPoint? f with
        | none => z
        | some c => if c.id = p then z else z.withdrawCall c.id
      let displaced := q.bus.getD 0
      let overtaken :=
        ((y.setPoint p (fun q => { q with callTimer := none })).returnTurn e p displaced).releaseClaim displaced .call
      let wrong :=
        y.post e .wrongBus f (some (.point p)) q.state.code (if q.state = .calling then q.bus.getD 0 else 0)
      let keeps := q.state = .occupied ∨ q.state = .serving ∨ q.state = .recovering ∨ q.state = .clearing
      (q.state = .calling → q.bus = some f → y.pointArrival e p f = y.takeBus p f) ∧
      (q.state = .calling → q.bus ≠ some f → qualifies →
        y.pointArrival e p f =
          ((((elsewhere overtaken).wantPoint p .clearCall).takeBus p f).raise).post e .turnTakenOver f (some (.point p)) 0
            displaced) ∧
      (q.state = .free → qualifies → y.pointArrival e p f = (elsewhere y).takeBus p f) ∧
      (keeps → q.bus = some f → y.pointArrival e p f = y) ∧
      ((q.state = .calling ∧ q.bus ≠ some f ∧ ¬ qualifies) ∨ (q.state = .free ∧ ¬ qualifies) ∨
          (keeps ∧ q.bus ≠ some f) ∨ q.state = .closed ∨ q.state = .down ∨ q.state = .frozen →
        y.pointArrival e p f = wrong) ∧
      (∀ t b, y.turn? f = some t → y.bus? f = some b →
        let takes (g : Point → Point) : Yard :=
          let z := (y.setPoint p g).setTurn f (fun t => { t with status := .serving p })
          if b.wait = .called ∨ b.wait = .turn then z.setBus f (fun b => { b with wait := .serving }) else z
        (∀ k, t.request = .fuel k →
          y.takeBus p f = takes (fun q => { q with state := .occupied, bus := some f, callTimer := none })) ∧
        (∀ program passes, t.request = .wash program passes →
          y.takeBus p f =
            (takes (fun q =>
              { q with
                state := .occupied, bus := some f, callTimer := none, program := some program, passesLeft := passes
                retries := 0 })).wantPoint p (.startPass program)))) ∧
    (let vacates (g : Point → Point) (z : Yard) : Yard :=
       match z.point? p with
       | none => z
       | some u => if u.bus.isSome then (z.setPoint p g).raise else z.setPoint p g
     let recovers (faults : Nat → Nat) (z : Yard) : Yard :=
       (vacates (fun q =>
         { q with
           state := .recovering, bus := none, callTimer := none, recoveryTimer := some (e.params.recoveryWait * 60)
           program := none, passesLeft := 0, retries := 0, faults := faults q.faults }) z).wantPoint p .resetPoint
     let leaves (z : Yard) : Yard :=
       match q.bus with
       | none => z
       | some f => if y.servingAt p f = true then z.returnTurn e p f else z
     (∀ code quantity,
       let posted := y.post e .pointFault (q.bus.getD 0) (some (.point p)) code quantity
       let is (z : Yard) : Prop := y.pointFaulted e p code quantity = z
       let stands := q.state = .free ∨ q.state = .calling ∨ q.state = .clearing
       (q.state = .closed ∨ q.state = .down → is posted) ∧
       (p.isWash = false →
         (q.state = .frozen → is posted) ∧
         (q.state = .recovering → is (posted.downPoint e p .failed)) ∧
         (stands ∨ serves → q.faults = 0 → is (recovers (fun _ => 1) (posted.undoTurn e p))) ∧
         (stands ∨ serves → q.faults ≠ 0 → is ((posted.undoTurn e p).downPoint e p .failed))) ∧
       (p.isWash = true →
         (stands ∨ q.state = .frozen → is (recovers id (posted.undoTurn e p))) ∧
         (serves → q.retries < 3 →
           is ((posted.setPoint p (fun q =>
             { q with
               state := .recovering, retries := q.retries + 1
               recoveryTimer := some (e.params.recoveryWait * 60) })).wantPoint p .resetPoint)) ∧
         (q.state = .recovering ∨ (serves ∧ 3 ≤ q.retries) →
           ((∀ f, q.bus = some f → y.servingAt p f = false) → is (posted.downPoint e p .failed)) ∧
           (∀ f t, q.bus = some f → y.servingAt p f = true → y.turn? f = some t →
             is ((ended f q.passesLeft t.request.passes posted).downPoint e p .failed))))) ∧
     (∀ named : Option Nat,
       let own := named = none ∨ named = q.bus
       let is (z : Yard) : Prop := y.pointClear e p named = z
       (q.state = .clearing → own → is (y.freePoint p)) ∧
       (serves → q.bus ≠ none → own → is ((leaves y).freePoint p)) ∧
       (p.isWash = true → q.state = .recovering → q.bus ≠ none → own →
         is (vacates (fun q => { q with bus := none, program := none, passesLeft := 0 }) (leaves y))) ∧
       (¬ (q.state = .clearing ∧ own) → ¬ (serves ∧ q.bus ≠ none ∧ own) →
         ¬ (p.isWash = true ∧ q.state = .recovering ∧ q.bus ≠ none ∧ own) → is y)) ∧
     (q.state ≠ .recovering → y.pointReady e p = y) ∧
     (q.state = .recovering → p.isWash = false →
       y.pointReady e p =
         if q.closePending = true then y.freePoint p
         else (y.freePoint p).post e .pointUp 0 (some (.point p)) 4 0) ∧
     (q.state = .recovering → p.isWash = true →
       let up := (y.setPoint p (fun q => { q with recoveryTimer := none })).post e .pointUp 0 (some (.point p)) 4 0
       (q.bus = none → y.pointReady e p = up.freePoint p) ∧
       (∀ f, q.bus = some f → y.servingAt p f = false → y.pointReady e p = goes .clearing up) ∧
       (∀ f t, q.bus = some f → y.servingAt p f = true → y.turn? f = some t → y.frost = true →
         y.pointReady e p = goes .clearing (ended f q.passesLeft t.request.passes up)) ∧
       (∀ f program, q.bus = some f → y.servingAt p f = true → y.frost = false → q.program = some program →
         y.pointReady e p = (goes .occupied up).wantPoint p (.startPass program)))) ∧
    (∀ tenths,
      let counted := y.setPoint p (fun q => { q with tally := min limit (q.tally + tenths) })
      let cleared (z : Yard) : Yard := z.setPoint p (fun q => { q with state := .clearing })
      let healthy (z : Yard) : Yard := z.setPoint p (fun q => { q with faults := 0 })
      (¬ serves → y.fuelDone e p tenths = counted) ∧
      (serves → q.bus = none → y.fuelDone e p tenths = cleared (healthy counted)) ∧
      (∀ f, serves → q.bus = some f →
        ∃ units,
          10 * units ≤ tenths + 5 ∧ tenths ≤ 10 * units + 5 ∧ (tenths % 10 = 5 → units % 2 = 0) ∧
          let fuelled := healthy (counted.setBus f (fun b =>
            { b with fuelTaken := min 9999 (b.fuelTaken + units), fuelWanted := false }))
          (y.servingAt p f = false → y.fuelDone e p tenths = cleared fuelled) ∧
          (y.servingAt p f = true →
            y.fuelDone e p tenths =
              cleared (((fuelled.freeTurn f).post e .turnDone f (some (.point p)) 0 tenths).advancePast e f)))) ∧
    (let left := q.passesLeft - 1
     let counted := y.setPoint p (fun q => { q with tally := min limit (q.tally + 1) })
     let bounded := counted.setPoint p (fun q => { q with passesLeft := left, retries := 0 })
     (¬ serves → y.washDone e p = counted) ∧
     (serves → q.bus = none → y.washDone e p = bounded.freePoint p) ∧
     (∀ f, serves → q.bus = some f → y.servingAt p f = false → y.washDone e p = goes .clearing bounded) ∧
     (∀ f t b, serves → q.bus = some f → y.servingAt p f = true → y.turn? f = some t → y.bus? f = some b →
       (left = 0 → y.washDone e p = goes .clearing (ended f 0 t.request.passes bounded)) ∧
       (left ≠ 0 → y.frost = true → y.washDone e p = goes .clearing (ended f left t.request.passes bounded)) ∧
       (∀ program, left ≠ 0 → y.frost = false → q.program = some program →
         y.washDone e p = (goes .occupied bounded).wantPoint p (.startPass program))))

/-! ### Notices -/

/-- R172, R173, R174, R178. NOTICE_MAP, NOTICE_ENABLE and NOTICE_TALLY change the notice unit alone, as the request says, or nothing. The
bytes of the replies are deduced (log 17); that no count byte precedes the 42 classes or tallies is the model's choice (log 29). -/
def Obligations.NoticeRequests : Prop :=
  ∀ (s : State) (tag : Byte),
    let u := s.yard.notices
    let with_ (u : Notices) : State := s.withYard { s.yard with notices := u }
    let flag (b : Bool) : Byte := if b then 1#8 else 0#8
    (∀ pairs : List (Byte × Byte),
      let body := request 0x3C tag (u8 pairs.length ++ (pairs.map (fun p => [p.1, p.2])).flatten)
      let passes := (∀ p ∈ pairs, 1 ≤ p.1.toNat ∧ p.1.toNat ≤ 42 ∧ p.2.toNat ≤ 3) ∧ (pairs.map Prod.fst).Nodup
      pairs.length ≤ 118 → s.Takes body →
      (42 < pairs.length → Refused .noticeMap s body .badLength) ∧
      (pairs.length ≤ 42 → ¬ passes → Refused .noticeMap s body .badValue) ∧
      (pairs.length ≤ 42 → passes → u.classes.length = 42 →
        ∃ classes : List Nat, classes.length = 42 ∧
          (∀ i, i < 42 →
            classes.getD i 0 =
              match pairs.find? (fun p => p.1.toNat == i + 1) with
              | some p => p.2.toNat
              | none => u.classes.getD i 0) ∧
          Taken .noticeMap s (with_ { u with classes }) body
            ((classes.map u8).flatten ++ [flag u.enable1, flag u.enable2, flag u.enable3]))) ∧
    (∀ e1 e2 e3 : Byte,
      let body := request 0x3D tag [e1, e2, e3]
      let passes := e1.toNat ≤ 1 ∧ e2.toNat ≤ 1 ∧ e3.toNat ≤ 1
      s.Takes body →
      (¬ passes → Refused .noticeEnable s body .badValue) ∧
      (passes →
        Taken .noticeEnable s
          (with_ { u with enable1 := e1 == 1#8, enable2 := e2 == 1#8, enable3 := e3 == 1#8 }) body [e1, e2, e3])) ∧
    (let body := request 0x3E tag []
     s.Takes body →
     Taken .noticeTally s (with_ { u with tallies := List.replicate 42 0 }) body ((u.tallies.map u16).flatten))

/-- R172, R175, R176, R178. A posting: the tally, the tally-only kind, the full queue, and the record that joins the tail. -/
def Obligations.NoticePosted : Prop :=
  ∀ (u : Notices) (clock : Nat) (kind : NoticeKind) (fleet code quantity : Nat) (place : Option Place),
    let v := u.post clock kind fleet place code quantity
    let i := kind.num - 1
    let cls := u.classes.getD i 0
    let sent := (cls = 1 ∧ u.enable1 = true) ∨ (cls = 2 ∧ u.enable2 = true) ∨ (cls = 3 ∧ u.enable3 = true)
    let tallies := u.tallies.set i (min 65535 (u.tallies.getD i 0 + 1))
    (¬ sent → v = { u with tallies }) ∧
    (sent → 32 ≤ u.queue.length → v = { u with tallies, lost := min 255 (u.lost + 1) }) ∧
    (sent → u.queue.length < 32 →
      v = { u with
        tallies
        lost := 0
        queue := u.queue ++ [{ kind, cls, lost := u.lost, time := clock, fleet, place, code, quantity }] })

/-! ### Timers -/

/-- R9, R28, R29, R48, R160. The expiries of the supervision timer, a hold timer and the round timers. The model's choices: with no such
timer running an expiry does nothing (log 1), one is taken at any seconds left (log 4), and round timers are not counted down (log 5). -/
def Obligations.TimersExpire : Prop :=
  ∀ s : State, s.rstnLow = false →
    let e := s.env
    let y := s.yard
    let r := s.rounds
    (y.supTimer = none → exec .supervisionExpiry s = .next s) ∧
    (y.supTimer.isSome →
      let looked (b : Bus) : Bool := b.position != .outside && decide (0 < b.age)
      let lost := y.fleet.filter (fun b => looked b && b.age == 1)
      let lowered : Yard :=
        { y with
          supTimer := if e.params.supervision = 0 then none else some (e.params.supervision * 60)
          fleet := y.fleet.map (fun b => if looked b then { b with age := b.age - 1 } else b) }
      exec .supervisionExpiry s =
        .next (s.withYard
          (lost.foldl (fun z b => z.post e .sightLost b.fleet b.position.place b.position.code 0) lowered))) ∧
    (∀ f, y.bus? f = none → exec (.holdExpiry f) s = .next s) ∧
    (∀ f b, y.bus? f = some b →
      (b.wait ≠ .hold ∨ b.holdTimer = none → exec (.holdExpiry f) s = .next s) ∧
      (b.wait = .hold → b.holdTimer.isSome →
        exec (.holdExpiry f) s =
          .next (s.withYard
            (((y.setBus f (fun b => { b with holdTimer := none })).setBus f (fun b =>
              { b with repeatCount := none })).advanceSteps e f 16 none (b.cursor.getD 0 + 1))))) ∧
    (r.urgentTimer = none → exec (.roundTimerExpiry .urgent) s = .next s) ∧
    (r.urgentTimer.isSome →
      exec (.roundTimerExpiry .urgent) s =
        .next { s with rounds := { r with urgentDue := true, urgentTimer := some e.params.urgentPeriod } }) ∧
    (r.routineTimer = none → exec (.roundTimerExpiry .routine) s = .next s) ∧
    (r.routineTimer.isSome →
      exec (.roundTimerExpiry .routine) s =
        .next { s with rounds := { r with routineDue := true, routineTimer := some (e.params.routinePeriod * 1000) } })

/-! ### Invariants -/

/-- Every step keeps the state sound: clock, parameters and plan store in form; the fleet map rising, ages, missed calls and fuel in
range; the pool, the notice unit and the host link within their limits; the departure list in order; the groups of a round disjoint;
lanes, points and stations, as defined and as built, in rising order of number, islands before wash lanes. -/
def Obligations.EveryStepKeepsTheStateSound : Prop :=
  ∀ s t : State, s.Sound → step s = .next t → t.Sound

/-- The state after a pin reset is sound. -/
def Obligations.ResetStateIsSound : Prop := State.reset.Sound
end

