-- ==== Sys2Proof/Laws/State.lean ====
section
/-!
SUPPORT. One lemma per field per update of the yard's records: what an update leaves as it stands, and what it makes of the field it
changes. All hold by unfolding, so no later proof unfolds a record update.
-/
namespace Sys2Proof.Machine

variable (y : Yard)

/-! ### setBus -/

@[simp] theorem Yard.setBus_fleet (f : Nat) (g : Bus → Bus) : (y.setBus f g).fleet = y.fleet.map (fun b => if b.fleet = f then g b else b) := rfl
@[simp] theorem Yard.setBus_supTimer (f : Nat) (g : Bus → Bus) : (y.setBus f g).supTimer = y.supTimer := rfl
@[simp] theorem Yard.setBus_fuelPriority (f : Nat) (g : Bus → Bus) : (y.setBus f g).fuelPriority = y.fuelPriority := rfl
@[simp] theorem Yard.setBus_fuelOrdinary (f : Nat) (g : Bus → Bus) : (y.setBus f g).fuelOrdinary = y.fuelOrdinary := rfl
@[simp] theorem Yard.setBus_washQueue (f : Nat) (g : Bus → Bus) : (y.setBus f g).washQueue = y.washQueue := rfl
@[simp] theorem Yard.setBus_points (f : Nat) (g : Bus → Bus) : (y.setBus f g).points = y.points := rfl
@[simp] theorem Yard.setBus_frost (f : Nat) (g : Bus → Bus) : (y.setBus f g).frost = y.frost := rfl
@[simp] theorem Yard.setBus_lanes (f : Nat) (g : Bus → Bus) : (y.setBus f g).lanes = y.lanes := rfl
@[simp] theorem Yard.setBus_waits (f : Nat) (g : Bus → Bus) : (y.setBus f g).waits = y.waits := rfl
@[simp] theorem Yard.setBus_departures (f : Nat) (g : Bus → Bus) : (y.setBus f g).departures = y.departures := rfl
@[simp] theorem Yard.setBus_pullout (f : Nat) (g : Bus → Bus) : (y.setBus f g).pullout = y.pullout := rfl
@[simp] theorem Yard.setBus_pacing (f : Nat) (g : Bus → Bus) : (y.setBus f g).pacing = y.pacing := rfl
@[simp] theorem Yard.setBus_stations (f : Nat) (g : Bus → Bus) : (y.setBus f g).stations = y.stations := rfl
@[simp] theorem Yard.setBus_cmdQueue (f : Nat) (g : Bus → Bus) : (y.setBus f g).cmdQueue = y.cmdQueue := rfl
@[simp] theorem Yard.setBus_inFlight (f : Nat) (g : Bus → Bus) : (y.setBus f g).inFlight = y.inFlight := rfl
@[simp] theorem Yard.setBus_notices (f : Nat) (g : Bus → Bus) : (y.setBus f g).notices = y.notices := rfl

/-! ### setLane -/

@[simp] theorem Yard.setLane_fleet (n : Nat) (g : Lane → Lane) : (y.setLane n g).fleet = y.fleet := rfl
@[simp] theorem Yard.setLane_supTimer (n : Nat) (g : Lane → Lane) : (y.setLane n g).supTimer = y.supTimer := rfl
@[simp] theorem Yard.setLane_fuelPriority (n : Nat) (g : Lane → Lane) : (y.setLane n g).fuelPriority = y.fuelPriority := rfl
@[simp] theorem Yard.setLane_fuelOrdinary (n : Nat) (g : Lane → Lane) : (y.setLane n g).fuelOrdinary = y.fuelOrdinary := rfl
@[simp] theorem Yard.setLane_washQueue (n : Nat) (g : Lane → Lane) : (y.setLane n g).washQueue = y.washQueue := rfl
@[simp] theorem Yard.setLane_points (n : Nat) (g : Lane → Lane) : (y.setLane n g).points = y.points := rfl
@[simp] theorem Yard.setLane_frost (n : Nat) (g : Lane → Lane) : (y.setLane n g).frost = y.frost := rfl
@[simp] theorem Yard.setLane_lanes (n : Nat) (g : Lane → Lane) : (y.setLane n g).lanes = y.lanes.map (fun l => if l.number = n then g l else l) := rfl
@[simp] theorem Yard.setLane_waits (n : Nat) (g : Lane → Lane) : (y.setLane n g).waits = y.waits := rfl
@[simp] theorem Yard.setLane_departures (n : Nat) (g : Lane → Lane) : (y.setLane n g).departures = y.departures := rfl
@[simp] theorem Yard.setLane_pullout (n : Nat) (g : Lane → Lane) : (y.setLane n g).pullout = y.pullout := rfl
@[simp] theorem Yard.setLane_pacing (n : Nat) (g : Lane → Lane) : (y.setLane n g).pacing = y.pacing := rfl
@[simp] theorem Yard.setLane_stations (n : Nat) (g : Lane → Lane) : (y.setLane n g).stations = y.stations := rfl
@[simp] theorem Yard.setLane_cmdQueue (n : Nat) (g : Lane → Lane) : (y.setLane n g).cmdQueue = y.cmdQueue := rfl
@[simp] theorem Yard.setLane_inFlight (n : Nat) (g : Lane → Lane) : (y.setLane n g).inFlight = y.inFlight := rfl
@[simp] theorem Yard.setLane_notices (n : Nat) (g : Lane → Lane) : (y.setLane n g).notices = y.notices := rfl

/-! ### setPoint -/

@[simp] theorem Yard.setPoint_fleet (p : PointId) (g : Point → Point) : (y.setPoint p g).fleet = y.fleet := rfl
@[simp] theorem Yard.setPoint_supTimer (p : PointId) (g : Point → Point) : (y.setPoint p g).supTimer = y.supTimer := rfl
@[simp] theorem Yard.setPoint_fuelPriority (p : PointId) (g : Point → Point) : (y.setPoint p g).fuelPriority = y.fuelPriority := rfl
@[simp] theorem Yard.setPoint_fuelOrdinary (p : PointId) (g : Point → Point) : (y.setPoint p g).fuelOrdinary = y.fuelOrdinary := rfl
@[simp] theorem Yard.setPoint_washQueue (p : PointId) (g : Point → Point) : (y.setPoint p g).washQueue = y.washQueue := rfl
@[simp] theorem Yard.setPoint_points (p : PointId) (g : Point → Point) : (y.setPoint p g).points = y.points.map (fun q => if q.id = p then g q else q) := rfl
@[simp] theorem Yard.setPoint_frost (p : PointId) (g : Point → Point) : (y.setPoint p g).frost = y.frost := rfl
@[simp] theorem Yard.setPoint_lanes (p : PointId) (g : Point → Point) : (y.setPoint p g).lanes = y.lanes := rfl
@[simp] theorem Yard.setPoint_waits (p : PointId) (g : Point → Point) : (y.setPoint p g).waits = y.waits := rfl
@[simp] theorem Yard.setPoint_departures (p : PointId) (g : Point → Point) : (y.setPoint p g).departures = y.departures := rfl
@[simp] theorem Yard.setPoint_pullout (p : PointId) (g : Point → Point) : (y.setPoint p g).pullout = y.pullout := rfl
@[simp] theorem Yard.setPoint_pacing (p : PointId) (g : Point → Point) : (y.setPoint p g).pacing = y.pacing := rfl
@[simp] theorem Yard.setPoint_stations (p : PointId) (g : Point → Point) : (y.setPoint p g).stations = y.stations := rfl
@[simp] theorem Yard.setPoint_cmdQueue (p : PointId) (g : Point → Point) : (y.setPoint p g).cmdQueue = y.cmdQueue := rfl
@[simp] theorem Yard.setPoint_inFlight (p : PointId) (g : Point → Point) : (y.setPoint p g).inFlight = y.inFlight := rfl
@[simp] theorem Yard.setPoint_notices (p : PointId) (g : Point → Point) : (y.setPoint p g).notices = y.notices := rfl

/-! ### setStation -/

@[simp] theorem Yard.setStation_fleet (a : Nat) (g : Station → Station) : (y.setStation a g).fleet = y.fleet := rfl
@[simp] theorem Yard.setStation_supTimer (a : Nat) (g : Station → Station) : (y.setStation a g).supTimer = y.supTimer := rfl
@[simp] theorem Yard.setStation_fuelPriority (a : Nat) (g : Station → Station) : (y.setStation a g).fuelPriority = y.fuelPriority := rfl
@[simp] theorem Yard.setStation_fuelOrdinary (a : Nat) (g : Station → Station) : (y.setStation a g).fuelOrdinary = y.fuelOrdinary := rfl
@[simp] theorem Yard.setStation_washQueue (a : Nat) (g : Station → Station) : (y.setStation a g).washQueue = y.washQueue := rfl
@[simp] theorem Yard.setStation_points (a : Nat) (g : Station → Station) : (y.setStation a g).points = y.points := rfl
@[simp] theorem Yard.setStation_frost (a : Nat) (g : Station → Station) : (y.setStation a g).frost = y.frost := rfl
@[simp] theorem Yard.setStation_lanes (a : Nat) (g : Station → Station) : (y.setStation a g).lanes = y.lanes := rfl
@[simp] theorem Yard.setStation_waits (a : Nat) (g : Station → Station) : (y.setStation a g).waits = y.waits := rfl
@[simp] theorem Yard.setStation_departures (a : Nat) (g : Station → Station) : (y.setStation a g).departures = y.departures := rfl
@[simp] theorem Yard.setStation_pullout (a : Nat) (g : Station → Station) : (y.setStation a g).pullout = y.pullout := rfl
@[simp] theorem Yard.setStation_pacing (a : Nat) (g : Station → Station) : (y.setStation a g).pacing = y.pacing := rfl
@[simp] theorem Yard.setStation_stations (a : Nat) (g : Station → Station) : (y.setStation a g).stations = y.stations.map (fun t => if t.address = a then g t else t) := rfl
@[simp] theorem Yard.setStation_cmdQueue (a : Nat) (g : Station → Station) : (y.setStation a g).cmdQueue = y.cmdQueue := rfl
@[simp] theorem Yard.setStation_inFlight (a : Nat) (g : Station → Station) : (y.setStation a g).inFlight = y.inFlight := rfl
@[simp] theorem Yard.setStation_notices (a : Nat) (g : Station → Station) : (y.setStation a g).notices = y.notices := rfl

/-! ### setDeparture -/

@[simp] theorem Yard.setDeparture_fleet (f : Nat) (g : Departure → Departure) : (y.setDeparture f g).fleet = y.fleet := rfl
@[simp] theorem Yard.setDeparture_supTimer (f : Nat) (g : Departure → Departure) : (y.setDeparture f g).supTimer = y.supTimer := rfl
@[simp] theorem Yard.setDeparture_fuelPriority (f : Nat) (g : Departure → Departure) : (y.setDeparture f g).fuelPriority = y.fuelPriority := rfl
@[simp] theorem Yard.setDeparture_fuelOrdinary (f : Nat) (g : Departure → Departure) : (y.setDeparture f g).fuelOrdinary = y.fuelOrdinary := rfl
@[simp] theorem Yard.setDeparture_washQueue (f : Nat) (g : Departure → Departure) : (y.setDeparture f g).washQueue = y.washQueue := rfl
@[simp] theorem Yard.setDeparture_points (f : Nat) (g : Departure → Departure) : (y.setDeparture f g).points = y.points := rfl
@[simp] theorem Yard.setDeparture_frost (f : Nat) (g : Departure → Departure) : (y.setDeparture f g).frost = y.frost := rfl
@[simp] theorem Yard.setDeparture_lanes (f : Nat) (g : Departure → Departure) : (y.setDeparture f g).lanes = y.lanes := rfl
@[simp] theorem Yard.setDeparture_waits (f : Nat) (g : Departure → Departure) : (y.setDeparture f g).waits = y.waits := rfl
@[simp] theorem Yard.setDeparture_departures (f : Nat) (g : Departure → Departure) : (y.setDeparture f g).departures = y.departures.map (fun d => if d.bus = f then g d else d) := rfl
@[simp] theorem Yard.setDeparture_pullout (f : Nat) (g : Departure → Departure) : (y.setDeparture f g).pullout = y.pullout := rfl
@[simp] theorem Yard.setDeparture_pacing (f : Nat) (g : Departure → Departure) : (y.setDeparture f g).pacing = y.pacing := rfl
@[simp] theorem Yard.setDeparture_stations (f : Nat) (g : Departure → Departure) : (y.setDeparture f g).stations = y.stations := rfl
@[simp] theorem Yard.setDeparture_cmdQueue (f : Nat) (g : Departure → Departure) : (y.setDeparture f g).cmdQueue = y.cmdQueue := rfl
@[simp] theorem Yard.setDeparture_inFlight (f : Nat) (g : Departure → Departure) : (y.setDeparture f g).inFlight = y.inFlight := rfl
@[simp] theorem Yard.setDeparture_notices (f : Nat) (g : Departure → Departure) : (y.setDeparture f g).notices = y.notices := rfl

/-! ### dropDeparture -/

@[simp] theorem Yard.dropDeparture_fleet (f : Nat) : (y.dropDeparture f).fleet = y.fleet := rfl
@[simp] theorem Yard.dropDeparture_supTimer (f : Nat) : (y.dropDeparture f).supTimer = y.supTimer := rfl
@[simp] theorem Yard.dropDeparture_fuelPriority (f : Nat) : (y.dropDeparture f).fuelPriority = y.fuelPriority := rfl
@[simp] theorem Yard.dropDeparture_fuelOrdinary (f : Nat) : (y.dropDeparture f).fuelOrdinary = y.fuelOrdinary := rfl
@[simp] theorem Yard.dropDeparture_washQueue (f : Nat) : (y.dropDeparture f).washQueue = y.washQueue := rfl
@[simp] theorem Yard.dropDeparture_points (f : Nat) : (y.dropDeparture f).points = y.points := rfl
@[simp] theorem Yard.dropDeparture_frost (f : Nat) : (y.dropDeparture f).frost = y.frost := rfl
@[simp] theorem Yard.dropDeparture_lanes (f : Nat) : (y.dropDeparture f).lanes = y.lanes := rfl
@[simp] theorem Yard.dropDeparture_waits (f : Nat) : (y.dropDeparture f).waits = y.waits := rfl
@[simp] theorem Yard.dropDeparture_departures (f : Nat) : (y.dropDeparture f).departures = y.departures.filter (fun d => d.bus != f) := rfl
@[simp] theorem Yard.dropDeparture_pullout (f : Nat) : (y.dropDeparture f).pullout = y.pullout := rfl
@[simp] theorem Yard.dropDeparture_pacing (f : Nat) : (y.dropDeparture f).pacing = y.pacing := rfl
@[simp] theorem Yard.dropDeparture_stations (f : Nat) : (y.dropDeparture f).stations = y.stations := rfl
@[simp] theorem Yard.dropDeparture_cmdQueue (f : Nat) : (y.dropDeparture f).cmdQueue = y.cmdQueue := rfl
@[simp] theorem Yard.dropDeparture_inFlight (f : Nat) : (y.dropDeparture f).inFlight = y.inFlight := rfl
@[simp] theorem Yard.dropDeparture_notices (f : Nat) : (y.dropDeparture f).notices = y.notices := rfl

/-! ### setWait -/

@[simp] theorem Yard.setWait_fleet (f : Nat) (w : PlanWait) : (y.setWait f w).fleet = y.fleet.map (fun b => if b.fleet = f then { b with wait := w } else b) := rfl
@[simp] theorem Yard.setWait_supTimer (f : Nat) (w : PlanWait) : (y.setWait f w).supTimer = y.supTimer := rfl
@[simp] theorem Yard.setWait_fuelPriority (f : Nat) (w : PlanWait) : (y.setWait f w).fuelPriority = y.fuelPriority := rfl
@[simp] theorem Yard.setWait_fuelOrdinary (f : Nat) (w : PlanWait) : (y.setWait f w).fuelOrdinary = y.fuelOrdinary := rfl
@[simp] theorem Yard.setWait_washQueue (f : Nat) (w : PlanWait) : (y.setWait f w).washQueue = y.washQueue := rfl
@[simp] theorem Yard.setWait_points (f : Nat) (w : PlanWait) : (y.setWait f w).points = y.points := rfl
@[simp] theorem Yard.setWait_frost (f : Nat) (w : PlanWait) : (y.setWait f w).frost = y.frost := rfl
@[simp] theorem Yard.setWait_lanes (f : Nat) (w : PlanWait) : (y.setWait f w).lanes = y.lanes := rfl
@[simp] theorem Yard.setWait_waits (f : Nat) (w : PlanWait) : (y.setWait f w).waits = y.waits := rfl
@[simp] theorem Yard.setWait_departures (f : Nat) (w : PlanWait) : (y.setWait f w).departures = y.departures := rfl
@[simp] theorem Yard.setWait_pullout (f : Nat) (w : PlanWait) : (y.setWait f w).pullout = y.pullout := rfl
@[simp] theorem Yard.setWait_pacing (f : Nat) (w : PlanWait) : (y.setWait f w).pacing = y.pacing := rfl
@[simp] theorem Yard.setWait_stations (f : Nat) (w : PlanWait) : (y.setWait f w).stations = y.stations := rfl
@[simp] theorem Yard.setWait_cmdQueue (f : Nat) (w : PlanWait) : (y.setWait f w).cmdQueue = y.cmdQueue := rfl
@[simp] theorem Yard.setWait_inFlight (f : Nat) (w : PlanWait) : (y.setWait f w).inFlight = y.inFlight := rfl
@[simp] theorem Yard.setWait_notices (f : Nat) (w : PlanWait) : (y.setWait f w).notices = y.notices := rfl

/-! ### post -/

@[simp] theorem Yard.post_fleet (e : Env) (k : NoticeKind) (f : Nat) (p : Option Place) (c q : Nat) : (y.post e k f p c q).fleet = y.fleet := rfl
@[simp] theorem Yard.post_supTimer (e : Env) (k : NoticeKind) (f : Nat) (p : Option Place) (c q : Nat) : (y.post e k f p c q).supTimer = y.supTimer := rfl
@[simp] theorem Yard.post_fuelPriority (e : Env) (k : NoticeKind) (f : Nat) (p : Option Place) (c q : Nat) : (y.post e k f p c q).fuelPriority = y.fuelPriority := rfl
@[simp] theorem Yard.post_fuelOrdinary (e : Env) (k : NoticeKind) (f : Nat) (p : Option Place) (c q : Nat) : (y.post e k f p c q).fuelOrdinary = y.fuelOrdinary := rfl
@[simp] theorem Yard.post_washQueue (e : Env) (k : NoticeKind) (f : Nat) (p : Option Place) (c q : Nat) : (y.post e k f p c q).washQueue = y.washQueue := rfl
@[simp] theorem Yard.post_points (e : Env) (k : NoticeKind) (f : Nat) (p : Option Place) (c q : Nat) : (y.post e k f p c q).points = y.points := rfl
@[simp] theorem Yard.post_frost (e : Env) (k : NoticeKind) (f : Nat) (p : Option Place) (c q : Nat) : (y.post e k f p c q).frost = y.frost := rfl
@[simp] theorem Yard.post_lanes (e : Env) (k : NoticeKind) (f : Nat) (p : Option Place) (c q : Nat) : (y.post e k f p c q).lanes = y.lanes := rfl
@[simp] theorem Yard.post_waits (e : Env) (k : NoticeKind) (f : Nat) (p : Option Place) (c q : Nat) : (y.post e k f p c q).waits = y.waits := rfl
@[simp] theorem Yard.post_departures (e : Env) (k : NoticeKind) (f : Nat) (p : Option Place) (c q : Nat) : (y.post e k f p c q).departures = y.departures := rfl
@[simp] theorem Yard.post_pullout (e : Env) (k : NoticeKind) (f : Nat) (p : Option Place) (c q : Nat) : (y.post e k f p c q).pullout = y.pullout := rfl
@[simp] theorem Yard.post_pacing (e : Env) (k : NoticeKind) (f : Nat) (p : Option Place) (c q : Nat) : (y.post e k f p c q).pacing = y.pacing := rfl
@[simp] theorem Yard.post_stations (e : Env) (k : NoticeKind) (f : Nat) (p : Option Place) (c q : Nat) : (y.post e k f p c q).stations = y.stations := rfl
@[simp] theorem Yard.post_cmdQueue (e : Env) (k : NoticeKind) (f : Nat) (p : Option Place) (c q : Nat) : (y.post e k f p c q).cmdQueue = y.cmdQueue := rfl
@[simp] theorem Yard.post_inFlight (e : Env) (k : NoticeKind) (f : Nat) (p : Option Place) (c q : Nat) : (y.post e k f p c q).inFlight = y.inFlight := rfl
@[simp] theorem Yard.post_notices (e : Env) (k : NoticeKind) (f : Nat) (p : Option Place) (c q : Nat) : (y.post e k f p c q).notices = y.notices.post e.clock k f p c q := rfl

/-! ### queueCommand -/

@[simp] theorem Yard.queueCommand_fleet (o : Place) (a : Nat) (r : Order) : (y.queueCommand o a r).fleet = y.fleet := rfl
@[simp] theorem Yard.queueCommand_supTimer (o : Place) (a : Nat) (r : Order) : (y.queueCommand o a r).supTimer = y.supTimer := rfl
@[simp] theorem Yard.queueCommand_fuelPriority (o : Place) (a : Nat) (r : Order) : (y.queueCommand o a r).fuelPriority = y.fuelPriority := rfl
@[simp] theorem Yard.queueCommand_fuelOrdinary (o : Place) (a : Nat) (r : Order) : (y.queueCommand o a r).fuelOrdinary = y.fuelOrdinary := rfl
@[simp] theorem Yard.queueCommand_washQueue (o : Place) (a : Nat) (r : Order) : (y.queueCommand o a r).washQueue = y.washQueue := rfl
@[simp] theorem Yard.queueCommand_points (o : Place) (a : Nat) (r : Order) : (y.queueCommand o a r).points = y.points := rfl
@[simp] theorem Yard.queueCommand_frost (o : Place) (a : Nat) (r : Order) : (y.queueCommand o a r).frost = y.frost := rfl
@[simp] theorem Yard.queueCommand_lanes (o : Place) (a : Nat) (r : Order) : (y.queueCommand o a r).lanes = y.lanes := rfl
@[simp] theorem Yard.queueCommand_waits (o : Place) (a : Nat) (r : Order) : (y.queueCommand o a r).waits = y.waits := rfl
@[simp] theorem Yard.queueCommand_departures (o : Place) (a : Nat) (r : Order) : (y.queueCommand o a r).departures = y.departures := rfl
@[simp] theorem Yard.queueCommand_pullout (o : Place) (a : Nat) (r : Order) : (y.queueCommand o a r).pullout = y.pullout := rfl
@[simp] theorem Yard.queueCommand_pacing (o : Place) (a : Nat) (r : Order) : (y.queueCommand o a r).pacing = y.pacing := rfl
@[simp] theorem Yard.queueCommand_stations (o : Place) (a : Nat) (r : Order) : (y.queueCommand o a r).stations = y.stations := rfl
@[simp] theorem Yard.queueCommand_cmdQueue (o : Place) (a : Nat) (r : Order) : (y.queueCommand o a r).cmdQueue = y.cmdQueue ++ [{ owner := o, station := a, order := r }] := rfl
@[simp] theorem Yard.queueCommand_inFlight (o : Place) (a : Nat) (r : Order) : (y.queueCommand o a r).inFlight = y.inFlight := rfl
@[simp] theorem Yard.queueCommand_notices (o : Place) (a : Nat) (r : Order) : (y.queueCommand o a r).notices = y.notices := rfl

/-! ### leaveWaits -/

@[simp] theorem Yard.leaveWaits_fleet (f : Nat) : (y.leaveWaits f).fleet = y.fleet := rfl
@[simp] theorem Yard.leaveWaits_supTimer (f : Nat) : (y.leaveWaits f).supTimer = y.supTimer := rfl
@[simp] theorem Yard.leaveWaits_fuelPriority (f : Nat) : (y.leaveWaits f).fuelPriority = y.fuelPriority := rfl
@[simp] theorem Yard.leaveWaits_fuelOrdinary (f : Nat) : (y.leaveWaits f).fuelOrdinary = y.fuelOrdinary := rfl
@[simp] theorem Yard.leaveWaits_washQueue (f : Nat) : (y.leaveWaits f).washQueue = y.washQueue := rfl
@[simp] theorem Yard.leaveWaits_points (f : Nat) : (y.leaveWaits f).points = y.points := rfl
@[simp] theorem Yard.leaveWaits_frost (f : Nat) : (y.leaveWaits f).frost = y.frost := rfl
@[simp] theorem Yard.leaveWaits_lanes (f : Nat) : (y.leaveWaits f).lanes = y.lanes := rfl
@[simp] theorem Yard.leaveWaits_waits (f : Nat) : (y.leaveWaits f).waits = y.waits.filter (fun w => w.bus != f) := rfl
@[simp] theorem Yard.leaveWaits_departures (f : Nat) : (y.leaveWaits f).departures = y.departures := rfl
@[simp] theorem Yard.leaveWaits_pullout (f : Nat) : (y.leaveWaits f).pullout = y.pullout := rfl
@[simp] theorem Yard.leaveWaits_pacing (f : Nat) : (y.leaveWaits f).pacing = y.pacing := rfl
@[simp] theorem Yard.leaveWaits_stations (f : Nat) : (y.leaveWaits f).stations = y.stations := rfl
@[simp] theorem Yard.leaveWaits_cmdQueue (f : Nat) : (y.leaveWaits f).cmdQueue = y.cmdQueue := rfl
@[simp] theorem Yard.leaveWaits_inFlight (f : Nat) : (y.leaveWaits f).inFlight = y.inFlight := rfl
@[simp] theorem Yard.leaveWaits_notices (f : Nat) : (y.leaveWaits f).notices = y.notices := rfl

/-! ### raise -/

@[simp] theorem Yard.raise_fleet : (y.raise).fleet = y.fleet := rfl
@[simp] theorem Yard.raise_supTimer : (y.raise).supTimer = y.supTimer := rfl
@[simp] theorem Yard.raise_fuelPriority : (y.raise).fuelPriority = y.fuelPriority := rfl
@[simp] theorem Yard.raise_fuelOrdinary : (y.raise).fuelOrdinary = y.fuelOrdinary := rfl
@[simp] theorem Yard.raise_washQueue : (y.raise).washQueue = y.washQueue := rfl
@[simp] theorem Yard.raise_points : (y.raise).points = y.points.map (fun q => if q.state = .free then { q with selection := true } else q) := rfl
@[simp] theorem Yard.raise_frost : (y.raise).frost = y.frost := rfl
@[simp] theorem Yard.raise_lanes : (y.raise).lanes = y.lanes := rfl
@[simp] theorem Yard.raise_waits : (y.raise).waits = y.waits := rfl
@[simp] theorem Yard.raise_departures : (y.raise).departures = y.departures := rfl
@[simp] theorem Yard.raise_pullout : (y.raise).pullout = y.pullout := rfl
@[simp] theorem Yard.raise_pacing : (y.raise).pacing = y.pacing := rfl
@[simp] theorem Yard.raise_stations : (y.raise).stations = y.stations := rfl
@[simp] theorem Yard.raise_cmdQueue : (y.raise).cmdQueue = y.cmdQueue := rfl
@[simp] theorem Yard.raise_inFlight : (y.raise).inFlight = y.inFlight := rfl
@[simp] theorem Yard.raise_notices : (y.raise).notices = y.notices := rfl

/-! ### setTurn -/

@[simp] theorem Yard.setTurn_fleet (f : Nat) (g : PoolEntry → PoolEntry) : (y.setTurn f g).fleet = y.fleet := rfl
@[simp] theorem Yard.setTurn_supTimer (f : Nat) (g : PoolEntry → PoolEntry) : (y.setTurn f g).supTimer = y.supTimer := rfl
@[simp] theorem Yard.setTurn_fuelPriority (f : Nat) (g : PoolEntry → PoolEntry) : (y.setTurn f g).fuelPriority = y.fuelPriority.map (fun t => if t.bus = f then g t else t) := rfl
@[simp] theorem Yard.setTurn_fuelOrdinary (f : Nat) (g : PoolEntry → PoolEntry) : (y.setTurn f g).fuelOrdinary = y.fuelOrdinary.map (fun t => if t.bus = f then g t else t) := rfl
@[simp] theorem Yard.setTurn_washQueue (f : Nat) (g : PoolEntry → PoolEntry) : (y.setTurn f g).washQueue = y.washQueue.map (fun t => if t.bus = f then g t else t) := rfl
@[simp] theorem Yard.setTurn_points (f : Nat) (g : PoolEntry → PoolEntry) : (y.setTurn f g).points = y.points := rfl
@[simp] theorem Yard.setTurn_frost (f : Nat) (g : PoolEntry → PoolEntry) : (y.setTurn f g).frost = y.frost := rfl
@[simp] theorem Yard.setTurn_lanes (f : Nat) (g : PoolEntry → PoolEntry) : (y.setTurn f g).lanes = y.lanes := rfl
@[simp] theorem Yard.setTurn_waits (f : Nat) (g : PoolEntry → PoolEntry) : (y.setTurn f g).waits = y.waits := rfl
@[simp] theorem Yard.setTurn_departures (f : Nat) (g : PoolEntry → PoolEntry) : (y.setTurn f g).departures = y.departures := rfl
@[simp] theorem Yard.setTurn_pullout (f : Nat) (g : PoolEntry → PoolEntry) : (y.setTurn f g).pullout = y.pullout := rfl
@[simp] theorem Yard.setTurn_pacing (f : Nat) (g : PoolEntry → PoolEntry) : (y.setTurn f g).pacing = y.pacing := rfl
@[simp] theorem Yard.setTurn_stations (f : Nat) (g : PoolEntry → PoolEntry) : (y.setTurn f g).stations = y.stations := rfl
@[simp] theorem Yard.setTurn_cmdQueue (f : Nat) (g : PoolEntry → PoolEntry) : (y.setTurn f g).cmdQueue = y.cmdQueue := rfl
@[simp] theorem Yard.setTurn_inFlight (f : Nat) (g : PoolEntry → PoolEntry) : (y.setTurn f g).inFlight = y.inFlight := rfl
@[simp] theorem Yard.setTurn_notices (f : Nat) (g : PoolEntry → PoolEntry) : (y.setTurn f g).notices = y.notices := rfl

/-! ### freeTurn -/

@[simp] theorem Yard.freeTurn_fleet (f : Nat) : (y.freeTurn f).fleet = y.fleet := rfl
@[simp] theorem Yard.freeTurn_supTimer (f : Nat) : (y.freeTurn f).supTimer = y.supTimer := rfl
@[simp] theorem Yard.freeTurn_fuelPriority (f : Nat) : (y.freeTurn f).fuelPriority = y.fuelPriority.filter (fun t => t.bus != f) := rfl
@[simp] theorem Yard.freeTurn_fuelOrdinary (f : Nat) : (y.freeTurn f).fuelOrdinary = y.fuelOrdinary.filter (fun t => t.bus != f) := rfl
@[simp] theorem Yard.freeTurn_washQueue (f : Nat) : (y.freeTurn f).washQueue = y.washQueue.filter (fun t => t.bus != f) := rfl
@[simp] theorem Yard.freeTurn_points (f : Nat) : (y.freeTurn f).points = y.points := rfl
@[simp] theorem Yard.freeTurn_frost (f : Nat) : (y.freeTurn f).frost = y.frost := rfl
@[simp] theorem Yard.freeTurn_lanes (f : Nat) : (y.freeTurn f).lanes = y.lanes := rfl
@[simp] theorem Yard.freeTurn_waits (f : Nat) : (y.freeTurn f).waits = y.waits := rfl
@[simp] theorem Yard.freeTurn_departures (f : Nat) : (y.freeTurn f).departures = y.departures := rfl
@[simp] theorem Yard.freeTurn_pullout (f : Nat) : (y.freeTurn f).pullout = y.pullout := rfl
@[simp] theorem Yard.freeTurn_pacing (f : Nat) : (y.freeTurn f).pacing = y.pacing := rfl
@[simp] theorem Yard.freeTurn_stations (f : Nat) : (y.freeTurn f).stations = y.stations := rfl
@[simp] theorem Yard.freeTurn_cmdQueue (f : Nat) : (y.freeTurn f).cmdQueue = y.cmdQueue := rfl
@[simp] theorem Yard.freeTurn_inFlight (f : Nat) : (y.freeTurn f).inFlight = y.inFlight := rfl
@[simp] theorem Yard.freeTurn_notices (f : Nat) : (y.freeTurn f).notices = y.notices := rfl

/-! ### joinQueue -/

@[simp] theorem Yard.joinQueue_fleet (c : Nat) (t : PoolEntry) : (y.joinQueue c t).fleet = y.fleet := by
  unfold Yard.joinQueue; split
  · rfl
  · split <;> rfl
@[simp] theorem Yard.joinQueue_supTimer (c : Nat) (t : PoolEntry) : (y.joinQueue c t).supTimer = y.supTimer := by
  unfold Yard.joinQueue; split
  · rfl
  · split <;> rfl
@[simp] theorem Yard.joinQueue_points (c : Nat) (t : PoolEntry) : (y.joinQueue c t).points = y.points := by
  unfold Yard.joinQueue; split
  · rfl
  · split <;> rfl
@[simp] theorem Yard.joinQueue_frost (c : Nat) (t : PoolEntry) : (y.joinQueue c t).frost = y.frost := by
  unfold Yard.joinQueue; split
  · rfl
  · split <;> rfl
@[simp] theorem Yard.joinQueue_lanes (c : Nat) (t : PoolEntry) : (y.joinQueue c t).lanes = y.lanes := by
  unfold Yard.joinQueue; split
  · rfl
  · split <;> rfl
@[simp] theorem Yard.joinQueue_waits (c : Nat) (t : PoolEntry) : (y.joinQueue c t).waits = y.waits := by
  unfold Yard.joinQueue; split
  · rfl
  · split <;> rfl
@[simp] theorem Yard.joinQueue_departures (c : Nat) (t : PoolEntry) : (y.joinQueue c t).departures = y.departures := by
  unfold Yard.joinQueue; split
  · rfl
  · split <;> rfl
@[simp] theorem Yard.joinQueue_pullout (c : Nat) (t : PoolEntry) : (y.joinQueue c t).pullout = y.pullout := by
  unfold Yard.joinQueue; split
  · rfl
  · split <;> rfl
@[simp] theorem Yard.joinQueue_pacing (c : Nat) (t : PoolEntry) : (y.joinQueue c t).pacing = y.pacing := by
  unfold Yard.joinQueue; split
  · rfl
  · split <;> rfl
@[simp] theorem Yard.joinQueue_stations (c : Nat) (t : PoolEntry) : (y.joinQueue c t).stations = y.stations := by
  unfold Yard.joinQueue; split
  · rfl
  · split <;> rfl
@[simp] theorem Yard.joinQueue_cmdQueue (c : Nat) (t : PoolEntry) : (y.joinQueue c t).cmdQueue = y.cmdQueue := by
  unfold Yard.joinQueue; split
  · rfl
  · split <;> rfl
@[simp] theorem Yard.joinQueue_inFlight (c : Nat) (t : PoolEntry) : (y.joinQueue c t).inFlight = y.inFlight := by
  unfold Yard.joinQueue; split
  · rfl
  · split <;> rfl
@[simp] theorem Yard.joinQueue_notices (c : Nat) (t : PoolEntry) : (y.joinQueue c t).notices = y.notices := by
  unfold Yard.joinQueue; split
  · rfl
  · split <;> rfl

end Sys2Proof.Machine
end

