-- ==== Sys2Proof/Laws/Bounds.lean ====
section
/-!
SUPPORT. Every operation of the yard keeps `Yard.Bounded`: one lemma per operation, in the order of the model's files. A lemma about an
operation takes the bound of the yard it is applied to, so that the lemmas chain through a composition.
-/
namespace Sys2Proof.Machine

variable {p : Params} {y : Yard}

/-- The bounds of a bus record, as facts about its fields. -/
@[simp] theorem Bus.bounded_iff {b : Bus} :
    b.Bounded p ↔ b.age ≤ p.sightingReload ∧ b.missedCalls ≤ 3 ∧ b.fuelTaken ≤ 9999 :=
  ⟨fun h => ⟨h.age, h.missedCalls, h.fuelTaken⟩, fun ⟨h1, h2, h3⟩ => ⟨h1, h2, h3⟩⟩

/-! ### The notice unit -/

theorem Notices.InForm.post {u : Notices} (h : u.InForm) (c : Nat) (k : NoticeKind) (f : Nat) (pl : Option Place) (code q : Nat) :
    (u.post c k f pl code q).InForm := by
  obtain ⟨h1, h2, h3, h4, h5, h6⟩ := h
  have ht : ∀ t ∈ u.tallies.set (k.num - 1) (satAdd 65535 (u.tallies.getD (k.num - 1) 0) 1), t ≤ 65535 := by
    intro t ht
    rcases List.mem_or_eq_of_mem_set ht with h | h
    · exact h4 t h
    · subst h; exact Nat.min_le_left _ _
  unfold Notices.post
  simp only
  split
  · split
    · exact ⟨h1, h2, by simpa using h3, ht, h5, Nat.min_le_left _ _⟩
    · rename_i hroom
      refine ⟨h1, h2, by simpa using h3, ht, ?_, Nat.zero_le _⟩
      simp only [List.length_append, List.length_cons, List.length_nil]
      simp only [Config.noticeRoom, ge_iff_le, not_le] at hroom
      omega
  · exact ⟨h1, h2, by simpa using h3, ht, h5, h6⟩

/-! ### Records -/

/-- An update that touches none of the bounded records and takes no lane, point or station in or out. -/
theorem Yard.Bounded.same (h : y.Bounded p) {z : Yard} (hf : z.fleet = y.fleet) (hp : z.poolUsed ≤ y.poolUsed)
    (hn : z.notices = y.notices) (hd : z.departures = y.departures)
    (hl : z.lanes.map Lane.number = y.lanes.map Lane.number) (hq : z.points.map Point.id = y.points.map Point.id)
    (ht : z.stations.map Station.address = y.stations.map Station.address) : z.Bounded p :=
  ⟨hf ▸ h.mapRising, hf ▸ h.records, hf ▸ h.buses, le_trans hp h.pool, hn ▸ h.notices, hd ▸ h.listOrder, hd ▸ h.oneEntry,
    by rw [hf, hd]; exact h.linked, hl ▸ h.lanesRising, hq ▸ h.pointsRising, ht ▸ h.stationsRising⟩

@[simp] theorem Yard.Bounded.post (e : Env) (k : NoticeKind) (f : Nat) (pl : Option Place) (c q : Nat) (h : y.Bounded p) :
    (y.post e k f pl c q).Bounded p :=
  ⟨h.mapRising, h.records, h.buses, h.pool, h.notices.post _ _ _ _ _ _, h.listOrder, h.oneEntry, h.linked, h.lanesRising, h.pointsRising,
    h.stationsRising⟩

theorem Yard.fleetNumbers_map (g : Bus → Bus) (hg : ∀ b, (g b).fleet = b.fleet) (l : List Bus) :
    (l.map g).map Bus.fleet = l.map Bus.fleet := by
  simp [List.map_map, Function.comp_def, hg]

/-- A change of fleet records that keeps numbers and bounds. -/
theorem Yard.Bounded.mapFleet (g : Bus → Bus) (hg : ∀ b, (g b).fleet = b.fleet)
    (hb : ∀ b, b.Bounded p → (g b).Bounded p) (h : y.Bounded p) : ({ y with fleet := y.fleet.map g } : Yard).Bounded p := by
  refine ⟨?_, ?_, ?_, h.pool, h.notices, h.listOrder, h.oneEntry, ?_, h.lanesRising, h.pointsRising, h.stationsRising⟩
  · rw [Yard.fleetNumbers_map g hg]; exact h.mapRising
  · simpa using h.records
  · intro b hm
    obtain ⟨c, hc, rfl⟩ := List.mem_map.1 hm
    exact hb c (h.buses c hc)
  · rw [Yard.fleetNumbers_map g hg]; exact h.linked

@[simp] theorem Yard.Bounded.setBus (f : Nat) (g : Bus → Bus) (hg : ∀ b, (g b).fleet = b.fleet)
    (hb : ∀ b, b.Bounded p → (g b).Bounded p) (h : y.Bounded p) : (y.setBus f g).Bounded p := by
  refine h.mapFleet _ ?_ ?_
  · intro b; split <;> simp [*]
  · intro b hbb; split
    · exact hb b hbb
    · exact hbb

@[simp] theorem Yard.Bounded.setWait (f : Nat) (w : PlanWait) (h : y.Bounded p) : (y.setWait f w).Bounded p :=
  h.setBus f _ (fun _ => rfl) (fun _ hb => ⟨hb.age, hb.missedCalls, hb.fuelTaken⟩)

/-- The keys of a list whose records with some key are changed, when the change keeps keys. -/
theorem map_update_keys {α κ : Type} (key : α → κ) (c : α → Prop) [DecidablePred c] (g : α → α) (hg : ∀ x, key (g x) = key x)
    (l : List α) : (l.map (fun x => if c x then g x else x)).map key = l.map key := by
  rw [List.map_map]
  refine List.map_congr_left (fun x _ => ?_)
  simp only [Function.comp_apply]
  split <;> simp [hg]

@[simp] theorem Lane.insert_number (f : Nat) (l : Lane) : (l.insert f).number = l.number := by unfold Lane.insert; split <;> rfl
@[simp] theorem Lane.remove_number (f : Nat) (l : Lane) : (l.remove f).number = l.number := by simp only [Lane.remove]
@[simp] theorem Lane.unreserve_number (f : Nat) (l : Lane) : (l.unreserve f).number = l.number := by simp only [Lane.unreserve]
@[simp] theorem Point.vacated_id (q : Point) : q.vacated.id = q.id := by simp only [Point.vacated]
@[simp] theorem Point.closedByHost_id (q : Point) : q.closedByHost.id = q.id := by simp only [Point.closedByHost, Point.vacated]
@[simp] theorem Point.freed_id (b : Bool) (q : Point) : (q.freed b).id = q.id := by
  unfold Point.freed
  repeat' split
  all_goals rfl

@[simp] theorem Yard.Bounded.setLane (n : Nat) (g : Lane → Lane) (hg : ∀ l, (g l).number = l.number) (h : y.Bounded p) :
    (y.setLane n g).Bounded p :=
  h.same rfl le_rfl rfl rfl (map_update_keys Lane.number _ g hg _) rfl rfl

@[simp] theorem Yard.Bounded.setPoint (i : PointId) (g : Point → Point) (hg : ∀ q, (g q).id = q.id) (h : y.Bounded p) :
    (y.setPoint i g).Bounded p :=
  h.same rfl le_rfl rfl rfl rfl (map_update_keys Point.id _ g hg _) rfl

@[simp] theorem Yard.Bounded.setStation (a : Nat) (g : Station → Station) (hg : ∀ t, (g t).address = t.address)
    (h : y.Bounded p) : (y.setStation a g).Bounded p :=
  h.same rfl le_rfl rfl rfl rfl rfl (map_update_keys Station.address _ g hg _)

@[simp] theorem Yard.Bounded.queueCommand (o : Place) (a : Nat) (r : Order) (h : y.Bounded p) : (y.queueCommand o a r).Bounded p :=
  h.same rfl le_rfl rfl rfl rfl rfl rfl

@[simp] theorem Yard.Bounded.leaveWaits (f : Nat) (h : y.Bounded p) : (y.leaveWaits f).Bounded p :=
  h.same rfl le_rfl rfl rfl rfl rfl rfl

@[simp] theorem Yard.Bounded.raise (h : y.Bounded p) : y.raise.Bounded p :=
  h.same rfl le_rfl rfl rfl rfl (map_update_keys Point.id _ (fun q => { q with selection := true }) (fun _ => rfl) _) rfl

@[simp] theorem Yard.Bounded.setTurn (f : Nat) (g : PoolEntry → PoolEntry) (h : y.Bounded p) : (y.setTurn f g).Bounded p :=
  h.same rfl (by simp [Yard.poolUsed]) rfl rfl rfl rfl rfl

theorem Yard.poolUsed_freeTurn_le (f : Nat) (y : Yard) : (y.freeTurn f).poolUsed ≤ y.poolUsed := by
  simp only [Yard.poolUsed, Yard.freeTurn_fuelPriority, Yard.freeTurn_fuelOrdinary, Yard.freeTurn_washQueue]
  have := List.length_filter_le (fun t : PoolEntry => t.bus != f)
  exact Nat.add_le_add (Nat.add_le_add (this _) (this _)) (this _)

@[simp] theorem Yard.Bounded.freeTurn (f : Nat) (h : y.Bounded p) : (y.freeTurn f).Bounded p :=
  h.same rfl (Yard.poolUsed_freeTurn_le f y) rfl rfl rfl rfl rfl

/-- Freeing an entry that is held makes room. -/
theorem Yard.poolUsed_freeTurn_lt {f : Nat} {t : PoolEntry} (h : y.turn? f = some t) :
    (y.freeTurn f).poolUsed < y.poolUsed := by
  have hp := List.find?_some h
  have hm := List.mem_of_find?_eq_some h
  have hlt : (y.pool.filter (fun t => t.bus != f)).length < y.pool.length := by
    rw [List.length_filter_lt_length_iff_exists]
    exact ⟨t, hm, by simpa using hp⟩
  simpa [Yard.pool, Yard.poolUsed, Nat.add_assoc] using hlt

theorem Yard.poolUsed_joinQueue (c : Nat) (t : PoolEntry) (y : Yard) : (y.joinQueue c t).poolUsed = y.poolUsed + 1 := by
  unfold Yard.joinQueue Yard.poolUsed
  split
  · simp; omega
  · split <;> · simp; omega

/-- An entry joins a queue of a pool with room. -/
@[simp] theorem Yard.Bounded.joinQueue (c : Nat) (t : PoolEntry) (hroom : y.poolUsed < 48) (h : y.Bounded p) :
    (y.joinQueue c t).Bounded p := by
  refine ⟨?_, ?_, ?_, ?_, ?_, ?_, ?_, ?_, ?_, ?_, ?_⟩
  · simpa using h.mapRising
  · simpa using h.records
  · simpa using h.buses
  · rw [Yard.poolUsed_joinQueue]; omega
  · simpa using h.notices
  · simpa using h.listOrder
  · simpa using h.oneEntry
  · simpa using h.linked
  · simpa using h.lanesRising
  · simpa using h.pointsRising
  · simpa using h.stationsRising

@[simp] theorem Yard.Bounded.setDeparture (f : Nat) (g : Departure → Departure)
    (hg : ∀ d, (g d).bus = d.bus ∧ (g d).slot = d.slot ∧ (g d).mark = d.mark) (h : y.Bounded p) :
    (y.setDeparture f g).Bounded p := by
  have hbus : ((y.setDeparture f g).departures.map Departure.bus) = y.departures.map Departure.bus := by
    simp only [Yard.setDeparture_departures, List.map_map]
    refine List.map_congr_left (fun d _ => ?_)
    simp only [Function.comp_apply]
    split <;> simp [hg]
  refine ⟨h.mapRising, h.records, h.buses, h.pool, h.notices, ?_, ?_, ?_, h.lanesRising, h.pointsRising, h.stationsRising⟩
  · simp only [Yard.setDeparture_departures]
    rw [List.pairwise_map]
    refine h.listOrder.imp ?_
    intro a b hab
    unfold Departure.Before at *
    have e1 : ∀ d : Departure, (if d.bus = f then g d else d).slot = d.slot := by intro d; split <;> simp [hg]
    have e2 : ∀ d : Departure, (if d.bus = f then g d else d).mark = d.mark := by intro d; split <;> simp [hg]
    simpa [e1, e2] using hab
  · rw [hbus]; exact h.oneEntry
  · intro d hd
    have : d.bus ∈ (y.setDeparture f g).departures.map Departure.bus := List.mem_map_of_mem hd
    rw [hbus] at this
    obtain ⟨d', hd', e⟩ := List.mem_map.1 this
    rw [← e]
    exact h.linked d' hd'

/-- Entries taken out of the list. -/
@[simp] theorem Yard.Bounded.filterDepartures (keep : Departure → Bool) (h : y.Bounded p) :
    ({ y with departures := y.departures.filter keep } : Yard).Bounded p :=
  ⟨h.mapRising, h.records, h.buses, h.pool, h.notices, h.listOrder.filter _,
    h.oneEntry.sublist ((List.filter_sublist).map _), fun d hd => h.linked d (List.mem_of_mem_filter hd),
    h.lanesRising, h.pointsRising, h.stationsRising⟩

@[simp] theorem Yard.Bounded.dropDeparture (f : Nat) (h : y.Bounded p) : (y.dropDeparture f).Bounded p :=
  h.filterDepartures _

/-- A fold of operations that each keep the bound. -/
theorem Yard.Bounded.foldl {α : Type} {op : Yard → α → Yard} (hop : ∀ z a, z.Bounded p → (op z a).Bounded p) :
    ∀ (l : List α) {z : Yard}, z.Bounded p → (l.foldl op z).Bounded p
  | [], _, h => h
  | a :: l, _, h => Yard.Bounded.foldl hop l (hop _ a h)

/-! ### Signs, flags, claims -/

variable {e : Env}

@[simp] theorem satAdd_le (l a b : Nat) : satAdd l a b ≤ l := Nat.min_le_left _ _

theorem Yard.withWaits_bounded {l : List BerthWait} (h : y.Bounded p) : ({ y with waits := l } : Yard).Bounded p :=
  h.same rfl le_rfl rfl rfl rfl rfl rfl

theorem Yard.withPoints_bounded {l : List Point} (hl : l.map Point.id = y.points.map Point.id) (h : y.Bounded p) :
    ({ y with points := l } : Yard).Bounded p :=
  h.same rfl le_rfl rfl rfl rfl hl rfl

theorem Yard.withInFlight_bounded {f : Option InFlight} (h : y.Bounded p) : ({ y with inFlight := f } : Yard).Bounded p :=
  h.same rfl le_rfl rfl rfl rfl rfl rfl

theorem Yard.withQueue_bounded {l : List LineCommand} (h : y.Bounded p) : ({ y with cmdQueue := l } : Yard).Bounded p :=
  h.same rfl le_rfl rfl rfl rfl rfl rfl

@[simp] theorem Yard.Bounded.recountInversions (n : Nat) (h : y.Bounded e.params) : (y.recountInversions e n).Bounded e.params := by
  unfold Yard.recountInversions; try dsimp only
  repeat' split
  all_goals simp (maxDischargeDepth := 60) [h]

@[simp] theorem Yard.Bounded.setMismatch (n f c q : Nat) (h : y.Bounded e.params) : (y.setMismatch e n f c q).Bounded e.params := by
  unfold Yard.setMismatch; try dsimp only
  repeat' split
  all_goals simp (maxDischargeDepth := 60) [h]

@[simp] theorem Yard.Bounded.setOverfull (n f : Nat) (h : y.Bounded e.params) : (y.setOverfull e n f).Bounded e.params := by
  unfold Yard.setOverfull; try dsimp only
  repeat' split
  all_goals simp (maxDischargeDepth := 60) [h]

@[simp] theorem Yard.Bounded.recheckOverfull (n : Nat) (h : y.Bounded e.params) : (y.recheckOverfull n).Bounded e.params := by
  unfold Yard.recheckOverfull; try dsimp only
  repeat' split
  all_goals simp (maxDischargeDepth := 60) [h]

@[simp] theorem Yard.Bounded.wantSign (n : Nat) (h : y.Bounded e.params) : (y.wantSign n).Bounded e.params := by
  unfold Yard.wantSign
  repeat' split
  · exact h
  · exact Yard.withQueue_bounded h
  all_goals simp (maxDischargeDepth := 60) [h]

@[simp] theorem Yard.Bounded.updateSign (n : Nat) (h : y.Bounded e.params) : (y.updateSign n).Bounded e.params := by
  unfold Yard.updateSign; try dsimp only
  repeat' split
  all_goals simp (maxDischargeDepth := 60) [h]

@[simp] theorem Yard.Bounded.wantConfirm (n : Nat) (h : y.Bounded e.params) : (y.wantConfirm n).Bounded e.params := by
  unfold Yard.wantConfirm; try dsimp only
  repeat' split
  all_goals simp (maxDischargeDepth := 60) [h]

@[simp] theorem Yard.Bounded.takenForSending (n : Nat) (h : y.Bounded e.params) : (y.takenForSending n).Bounded e.params := by
  unfold Yard.takenForSending; try dsimp only
  repeat' split
  all_goals simp (maxDischargeDepth := 60) [h]

@[simp] theorem Yard.Bounded.writeClaim (n f : Nat) (r : ReleaseReason) (h : y.Bounded e.params) : (y.writeClaim n f r).Bounded e.params := by
  unfold Yard.writeClaim; try dsimp only
  all_goals simp (maxDischargeDepth := 60) [h]

@[simp] theorem Yard.Bounded.clearRelease (n : Nat) (h : y.Bounded e.params) : (y.clearRelease n).Bounded e.params := by
  unfold Yard.clearRelease; try dsimp only
  all_goals simp (maxDischargeDepth := 60) [h]

@[simp] theorem Yard.Bounded.releaseClaim (f : Nat) (r : ReleaseReason) (h : y.Bounded e.params) : (y.releaseClaim f r).Bounded e.params := by
  unfold Yard.releaseClaim; try dsimp only
  repeat' split
  all_goals simp (maxDischargeDepth := 60) [h]

@[simp] theorem Yard.Bounded.wantPoint (i : PointId) (o : Order) (h : y.Bounded e.params) : (y.wantPoint i o).Bounded e.params := by
  unfold Yard.wantPoint; try dsimp only
  repeat' split
  all_goals simp (maxDischargeDepth := 60) [h]

/-! ### Berths -/

@[simp] theorem Yard.Bounded.reserve (b : Bus) (n : Nat) (k : ReservationKind) (w : PlanWait) (l c q : Nat) (h : y.Bounded e.params) : (y.reserve e b n k w l c q).Bounded e.params := by
  unfold Yard.reserve; try dsimp only
  all_goals simp (maxDischargeDepth := 60) [h]

@[simp] theorem Yard.Bounded.berthRequest (b : Bus) (a : Option Nat) (l : Nat) (h : y.Bounded e.params) : (y.berthRequest e b a l).Bounded e.params := by
  unfold Yard.berthRequest
  split
  · simp (maxDischargeDepth := 60) [h]
  · exact ((Yard.withWaits_bounded h).setWait _ _).post _ _ _ _ _ _

@[simp] theorem Yard.Bounded.retryWait (w : BerthWait) (h : y.Bounded e.params) : (y.retryWait e w).Bounded e.params := by
  unfold Yard.retryWait; try dsimp only
  repeat' split
  all_goals simp (maxDischargeDepth := 60) [h]

@[simp] theorem Yard.Bounded.rerunWaits (h : y.Bounded e.params) : (y.rerunWaits e).Bounded e.params := by
  exact Yard.Bounded.foldl (fun _ _ hz => hz.retryWait _) _ h

@[simp] theorem Yard.Bounded.keyChanged (f : Nat) (h : y.Bounded e.params) : (y.keyChanged e f).Bounded e.params := by
  unfold Yard.keyChanged; try dsimp only
  repeat' split
  all_goals simp (maxDischargeDepth := 60) [h]

/-! ### Plans -/

theorem Yard.Bounded.enqueueTurn {f : Nat} {r : TurnRequest} {z : Yard} (h : y.Bounded e.params)
    (hz : y.enqueueTurn e f r = some z) : z.Bounded e.params := by
  unfold Yard.enqueueTurn at hz
  split at hz
  · cases hz
  · rename_i hroom
    have hr : y.poolUsed < 48 := by simpa [Config.poolEntries] using hroom
    cases hz
    exact ((h.joinQueue _ _ hr).setWait _ _).raise

@[simp] theorem Yard.Bounded.planFault (f : Nat) (c : FaultCause) (k : Nat) (h : y.Bounded e.params) : (y.planFault e f c k).Bounded e.params := by
  unfold Yard.planFault; try dsimp only
  all_goals simp (maxDischargeDepth := 60) [h]

@[simp] theorem Yard.Bounded.runaway (f a : Nat) (h : y.Bounded e.params) : (y.runaway e f a).Bounded e.params := by
  unfold Yard.runaway
  exact h.planFault _ _ _

@[simp] theorem Yard.Bounded.planStalled (f c a : Nat) (h : y.Bounded e.params) : (y.planStalled e f c a).Bounded e.params := by
  unfold Yard.planStalled; try dsimp only
  all_goals simp (maxDischargeDepth := 60) [h]

theorem Yard.Bounded.execStep (b : Bus) (a : Nat) (m : Option Nat) (st : Step) (h : y.Bounded e.params) :
    (y.execStep e b a m st).1.Bounded e.params := by
  unfold Yard.execStep
  split
  · split
    · rename_i hz; exact h.enqueueTurn hz
    · simp (maxDischargeDepth := 60) [h]
  · dsimp only
    split
    · simp (maxDischargeDepth := 60) [h]
    · split
      · rename_i hz; exact h.enqueueTurn hz
      · simp (maxDischargeDepth := 60) [h]
  all_goals (try dsimp only)
  all_goals repeat' split
  all_goals simp (maxDischargeDepth := 60) [h]

theorem Yard.Bounded.advanceSteps (f : Nat) :
    ∀ (n : Nat) (m : Option Nat) (a : Nat) {y : Yard}, y.Bounded e.params → (y.advanceSteps e f n m a).Bounded e.params
  | 0, _, _, _, h => h.runaway _ _
  | n + 1, m, a, y, h => by
    unfold Yard.advanceSteps
    split
    · exact h
    · rename_i b _
      split
      · simp (maxDischargeDepth := 60) [h]
      · split
        · simp (maxDischargeDepth := 60) [h]
        · rename_i st _
          split
          · simp (maxDischargeDepth := 60) [h]
          · have hs : (y.setBus f (fun b => { b with cursor := some a })).Bounded e.params := by simp (maxDischargeDepth := 60) [h]
            have hx := hs.execStep b a m st
            split
            · rename_i he; rw [he] at hx; exact Yard.Bounded.advanceSteps f n none _ hx
            · rename_i he; rw [he] at hx; exact hx

@[simp] theorem Yard.Bounded.advance (f a : Nat) (h : y.Bounded e.params) : (y.advance e f a).Bounded e.params := by
  exact h.advanceSteps _ _ _ _

@[simp] theorem Yard.Bounded.planStart (f a : Nat) (h : y.Bounded e.params) : (y.planStart e f a).Bounded e.params := by
  unfold Yard.planStart; try dsimp only
  all_goals simp (maxDischargeDepth := 60) [h]

@[simp] theorem Yard.Bounded.advancePast (f : Nat) (h : y.Bounded e.params) : (y.advancePast e f).Bounded e.params := by
  unfold Yard.advancePast; try dsimp only
  repeat' split
  all_goals simp (maxDischargeDepth := 60) [h]

@[simp] theorem Yard.Bounded.turnGranted (f : Nat) (h : y.Bounded e.params) : (y.turnGranted f).Bounded e.params := by
  unfold Yard.turnGranted; try dsimp only
  repeat' split
  all_goals simp (maxDischargeDepth := 60) [h]

@[simp] theorem Yard.Bounded.busAtPoint (f : Nat) (h : y.Bounded e.params) : (y.busAtPoint f).Bounded e.params := by
  unfold Yard.busAtPoint; try dsimp only
  repeat' split
  all_goals simp (maxDischargeDepth := 60) [h]

@[simp] theorem Yard.Bounded.serviceComplete (f : Nat) (h : y.Bounded e.params) : (y.serviceComplete e f).Bounded e.params := by
  unfold Yard.serviceComplete; try dsimp only
  repeat' split
  all_goals simp (maxDischargeDepth := 60) [h]

@[simp] theorem Yard.Bounded.frostEnd (f : Nat) (h : y.Bounded e.params) : (y.frostEnd e f).Bounded e.params := by
  unfold Yard.frostEnd; try dsimp only
  repeat' split
  all_goals simp (maxDischargeDepth := 60) [h]

@[simp] theorem Yard.Bounded.turnReturned (f : Nat) (h : y.Bounded e.params) : (y.turnReturned f).Bounded e.params := by
  unfold Yard.turnReturned; try dsimp only
  repeat' split
  all_goals simp (maxDischargeDepth := 60) [h]

@[simp] theorem Yard.Bounded.missedCallsSignal (f : Nat) (h : y.Bounded e.params) : (y.missedCallsSignal e f).Bounded e.params := by
  unfold Yard.missedCallsSignal; try dsimp only
  repeat' split
  all_goals simp (maxDischargeDepth := 60) [h]

@[simp] theorem Yard.Bounded.parkTimeoutSignal (f : Nat) (h : y.Bounded e.params) : (y.parkTimeoutSignal e f).Bounded e.params := by
  unfold Yard.parkTimeoutSignal; try dsimp only
  repeat' split
  all_goals simp (maxDischargeDepth := 60) [h]

@[simp] theorem Yard.Bounded.enteredSignal (f : Nat) (h : y.Bounded e.params) : (y.enteredSignal e f).Bounded e.params := by
  unfold Yard.enteredSignal; try dsimp only
  repeat' split
  all_goals simp (maxDischargeDepth := 60) [h]

@[simp] theorem Yard.Bounded.reservationDropped (d : Nat × Nat) (h : y.Bounded e.params) : (y.reservationDropped e d).Bounded e.params := by
  unfold Yard.reservationDropped
  split
  · split
    · exact h.advanceSteps _ _ _ _
    · exact h
  · exact h

@[simp] theorem Yard.Bounded.shuntEnded (f : Nat) (h : y.Bounded e.params) : (y.shuntEnded f).Bounded e.params := by
  unfold Yard.shuntEnded; try dsimp only
  repeat' split
  all_goals simp (maxDischargeDepth := 60) [h]

/-! ### Turns, islands and wash lanes -/

@[simp] theorem Yard.Bounded.endWashStep (f r : Nat) (pl : Option Place) (h : y.Bounded e.params) : (y.endWashStep e f r pl).Bounded e.params := by
  unfold Yard.endWashStep; try dsimp only
  repeat' split
  all_goals simp (maxDischargeDepth := 60) [h]

@[simp] theorem Yard.Bounded.completeWash (f r : Nat) (pl : Option Place) (h : y.Bounded e.params) : (y.completeWash e f r pl).Bounded e.params := by
  unfold Yard.completeWash; try dsimp only
  all_goals simp (maxDischargeDepth := 60) [h]

@[simp] theorem Yard.Bounded.frostWash (f r : Nat) (pl : Option Place) (h : y.Bounded e.params) : (y.frostWash e f r pl).Bounded e.params := by
  unfold Yard.frostWash; try dsimp only
  all_goals simp (maxDischargeDepth := 60) [h]

@[simp] theorem Yard.Bounded.returnTurn (i : PointId) (f : Nat) (h : y.Bounded e.params) : (y.returnTurn e i f).Bounded e.params := by
  unfold Yard.returnTurn; try dsimp only
  repeat' split
  all_goals simp (maxDischargeDepth := 60) [h]

@[simp] theorem Yard.Bounded.requeueTurn (f : Nat) (h : y.Bounded e.params) : (y.requeueTurn e f).Bounded e.params := by
  unfold Yard.requeueTurn
  split
  · exact h
  · rename_i t ht
    have hr : (y.freeTurn f).poolUsed < 48 := lt_of_lt_of_le (Yard.poolUsed_freeTurn_lt ht) h.pool
    exact (((h.freeTurn f).joinQueue _ _ hr).turnReturned f).raise

@[simp] theorem Yard.Bounded.vacatePoint (i : PointId) (g : Point → Point) (hg : ∀ q, (g q).id = q.id) (h : y.Bounded e.params) :
    (y.vacatePoint i g).Bounded e.params := by
  unfold Yard.vacatePoint; try dsimp only
  repeat' split
  all_goals simp (maxDischargeDepth := 60) [h, hg]

@[simp] theorem Yard.Bounded.freePoint (i : PointId) (h : y.Bounded e.params) : (y.freePoint i).Bounded e.params := by
  unfold Yard.freePoint; try dsimp only
  all_goals simp (maxDischargeDepth := 60) [h]

@[simp] theorem Yard.Bounded.closePoint (i : PointId) (h : y.Bounded e.params) : (y.closePoint i).Bounded e.params := by
  unfold Yard.closePoint; try dsimp only
  all_goals simp (maxDischargeDepth := 60) [h]

@[simp] theorem Yard.Bounded.downPoint (i : PointId) (c : DownCause) (h : y.Bounded e.params) : (y.downPoint e i c).Bounded e.params := by
  unfold Yard.downPoint; try dsimp only
  all_goals simp (maxDischargeDepth := 60) [h]

@[simp] theorem Yard.Bounded.undoTurn (i : PointId) (h : y.Bounded e.params) : (y.undoTurn e i).Bounded e.params := by
  unfold Yard.undoTurn; try dsimp only
  repeat' split
  all_goals simp (maxDischargeDepth := 60) [h]

@[simp] theorem Yard.Bounded.withdrawCall (i : PointId) (h : y.Bounded e.params) : (y.withdrawCall i).Bounded e.params := by
  unfold Yard.withdrawCall; try dsimp only
  all_goals simp (maxDischargeDepth := 60) [h]

@[simp] theorem Yard.Bounded.withdrawElsewhere (i : PointId) (f : Nat) (h : y.Bounded e.params) : (y.withdrawElsewhere i f).Bounded e.params := by
  unfold Yard.withdrawElsewhere; try dsimp only
  repeat' split
  all_goals simp (maxDischargeDepth := 60) [h]

@[simp] theorem Yard.Bounded.takeBus (i : PointId) (f : Nat) (h : y.Bounded e.params) : (y.takeBus i f).Bounded e.params := by
  unfold Yard.takeBus; try dsimp only
  repeat' split
  all_goals simp (maxDischargeDepth := 60) [h]

@[simp] theorem Yard.Bounded.callBus (i : PointId) (f c : Nat) (h : y.Bounded e.params) : (y.callBus e i f c).Bounded e.params := by
  unfold Yard.callBus; try dsimp only
  repeat' split
  all_goals simp (maxDischargeDepth := 60) [h]

theorem scanQueue_length (s : PoolEntry → Bool) (c : Nat → Bool) : ∀ l : List PoolEntry, (scanQueue s c l).1.length = l.length
  | [] => rfl
  | t :: rest => by
    unfold scanQueue
    split
    · simpa using scanQueue_length s c rest
    · split
      · simp
      · simpa using scanQueue_length s c rest

@[simp] theorem Yard.Bounded.selectIsland (q : Point) (h : y.Bounded e.params) : (y.selectIsland e q).Bounded e.params := by
  have h1 : ({ y with fuelPriority := (scanQueue (fun t => q.serves t.request) (y.callable q.id) y.fuelPriority).1 } : Yard).Bounded
      e.params := h.same rfl (by simp [Yard.poolUsed, scanQueue_length]) rfl rfl rfl rfl rfl
  unfold Yard.selectIsland; dsimp only
  split
  · exact h1.callBus _ _ _
  · have h2 := h1.same (z :=
      { y with
        fuelPriority := (scanQueue (fun t => q.serves t.request) (y.callable q.id) y.fuelPriority).1
        fuelOrdinary := (scanQueue (fun t => q.serves t.request) (y.callable q.id) y.fuelOrdinary).1 })
      rfl (by simp [Yard.poolUsed, scanQueue_length]) rfl rfl rfl rfl rfl
    split
    · exact h2.callBus _ _ _
    · exact h2

@[simp] theorem Yard.Bounded.selectWash (q : Point) (h : y.Bounded e.params) : (y.selectWash e q).Bounded e.params := by
  have h1 : ({ y with washQueue := (scanQueue (fun _ => true) (y.callable q.id) y.washQueue).1 } : Yard).Bounded e.params :=
    h.same rfl (by simp [Yard.poolUsed, scanQueue_length]) rfl rfl rfl rfl rfl
  unfold Yard.selectWash; dsimp only
  split
  · exact h1.callBus _ _ _
  · exact h1

@[simp] theorem Yard.Bounded.selectionEvent (i : PointId) (h : y.Bounded e.params) : (y.selectionEvent e i).Bounded e.params := by
  unfold Yard.selectionEvent; try dsimp only
  repeat' split
  all_goals simp (maxDischargeDepth := 60) [h]

@[simp] theorem Yard.Bounded.callTimeout (i : PointId) (h : y.Bounded e.params) : (y.callTimeout e i).Bounded e.params := by
  unfold Yard.callTimeout
  split
  · exact h
  · split
    · rename_i q _ _ _ f _ _ _
      dsimp only
      have h1 : (y.setBus f (fun b => { b with missedCalls := satAdd 3 b.missedCalls 1 })).Bounded e.params :=
        h.setBus _ _ (fun _ => rfl) (fun _ hb => ⟨hb.age, satAdd_le _ _ _, hb.fuelTaken⟩)
      have h2 := h1.releaseClaim f .call
      generalize (y.setBus f (fun b => { b with missedCalls := satAdd 3 b.missedCalls 1 })).releaseClaim f .call = z at h2
      split <;> simp (maxDischargeDepth := 60) [h2]
    · exact h

@[simp] theorem Yard.Bounded.wrongBus (q : Point) (f : Nat) (h : y.Bounded e.params) : (y.wrongBus e q f).Bounded e.params := by
  unfold Yard.wrongBus; try dsimp only
  repeat' split
  all_goals simp (maxDischargeDepth := 60) [h]

@[simp] theorem Yard.Bounded.takeover (i : PointId) (c t : Nat) (h : y.Bounded e.params) : (y.takeover e i c t).Bounded e.params := by
  unfold Yard.takeover; try dsimp only
  all_goals simp (maxDischargeDepth := 60) [h]

@[simp] theorem Yard.Bounded.pointArrival (i : PointId) (f : Nat) (h : y.Bounded e.params) : (y.pointArrival e i f).Bounded e.params := by
  unfold Yard.pointArrival; try dsimp only
  repeat' split
  all_goals simp (maxDischargeDepth := 60) [h]

@[simp] theorem Yard.Bounded.hostClose (q : Point) (h : y.Bounded e.params) : (y.hostClose e q).Bounded e.params := by
  unfold Yard.hostClose; try dsimp only
  repeat' split
  all_goals simp (maxDischargeDepth := 60) [h]

theorem Yard.Bounded.hostOpen {q : Point} {z : Yard} (h : y.Bounded e.params) (hz : y.hostOpen e q = some z) :
    z.Bounded e.params := by
  unfold Yard.hostOpen at hz; dsimp only at hz
  repeat' split at hz
  all_goals cases hz
  all_goals simp (maxDischargeDepth := 60) [h]

@[simp] theorem Yard.Bounded.pointStationLost (i : PointId) (h : y.Bounded e.params) : (y.pointStationLost e i).Bounded e.params := by
  unfold Yard.pointStationLost; try dsimp only
  repeat' split
  all_goals simp (maxDischargeDepth := 60) [h]

@[simp] theorem Yard.Bounded.pointStationAlive (i : PointId) (h : y.Bounded e.params) : (y.pointStationAlive e i).Bounded e.params := by
  unfold Yard.pointStationAlive; try dsimp only
  repeat' split
  all_goals simp (maxDischargeDepth := 60) [h]

@[simp] theorem Yard.Bounded.pointRestarted (i : PointId) (h : y.Bounded e.params) : (y.pointRestarted i).Bounded e.params := by
  unfold Yard.pointRestarted; try dsimp only
  repeat' split
  all_goals simp (maxDischargeDepth := 60) [h]

@[simp] theorem Yard.Bounded.serviceStarted (i : PointId) (h : y.Bounded e.params) : (y.serviceStarted i).Bounded e.params := by
  unfold Yard.serviceStarted; try dsimp only
  repeat' split
  all_goals simp (maxDischargeDepth := 60) [h]

@[simp] theorem Yard.Bounded.addTally (i : PointId) (n : Nat) (h : y.Bounded e.params) : (y.addTally i n).Bounded e.params := by
  unfold Yard.addTally; try dsimp only
  all_goals simp (maxDischargeDepth := 60) [h]

@[simp] theorem Yard.Bounded.addFuel (f n : Nat) (h : y.Bounded e.params) : (y.addFuel f n).Bounded e.params := by
  exact h.setBus _ _ (fun _ => rfl) (fun _ hb => ⟨hb.age, hb.missedCalls, satAdd_le _ _ _⟩)

@[simp] theorem Yard.Bounded.fuelDone (i : PointId) (n : Nat) (h : y.Bounded e.params) : (y.fuelDone e i n).Bounded e.params := by
  unfold Yard.fuelDone; try dsimp only
  repeat' split
  all_goals simp (maxDischargeDepth := 60) [h]

@[simp] theorem Yard.Bounded.leftEarly (q : Point) (h : y.Bounded e.params) : (y.leftEarly e q).Bounded e.params := by
  unfold Yard.leftEarly; try dsimp only
  repeat' split
  all_goals simp (maxDischargeDepth := 60) [h]

@[simp] theorem Yard.Bounded.islandClear (i : PointId) (n : Option Nat) (h : y.Bounded e.params) : (y.islandClear e i n).Bounded e.params := by
  unfold Yard.islandClear; try dsimp only
  repeat' split
  all_goals simp (maxDischargeDepth := 60) [h]

@[simp] theorem Yard.Bounded.startRecovery (i : PointId) (g : Point → Point) (hg : ∀ q, (g q).id = q.id) (h : y.Bounded e.params) :
    (y.startRecovery e i g).Bounded e.params := by
  unfold Yard.startRecovery; try dsimp only
  all_goals simp (maxDischargeDepth := 60) [h, hg]

@[simp] theorem Yard.Bounded.postFault (q : Point) (c n : Nat) (h : y.Bounded e.params) : (y.postFault e q c n).Bounded e.params := by
  unfold Yard.postFault; try dsimp only
  all_goals simp (maxDischargeDepth := 60) [h]

@[simp] theorem Yard.Bounded.islandFault (i : PointId) (c n : Nat) (h : y.Bounded e.params) : (y.islandFault e i c n).Bounded e.params := by
  unfold Yard.islandFault; try dsimp only
  repeat' split
  all_goals simp (maxDischargeDepth := 60) [h]

@[simp] theorem Yard.Bounded.islandReady (i : PointId) (h : y.Bounded e.params) : (y.islandReady e i).Bounded e.params := by
  unfold Yard.islandReady; try dsimp only
  repeat' split
  all_goals simp (maxDischargeDepth := 60) [h]

@[simp] theorem Yard.Bounded.islandRecoveryLapse (i : PointId) (h : y.Bounded e.params) : (y.islandRecoveryLapse e i).Bounded e.params := by
  unfold Yard.islandRecoveryLapse; try dsimp only
  repeat' split
  all_goals simp (maxDischargeDepth := 60) [h]

@[simp] theorem Yard.Bounded.orderPass (i : PointId) (h : y.Bounded e.params) : (y.orderPass i).Bounded e.params := by
  unfold Yard.orderPass; try dsimp only
  repeat' split
  all_goals simp (maxDischargeDepth := 60) [h]

@[simp] theorem Yard.Bounded.toClearing (i : PointId) (h : y.Bounded e.params) : (y.toClearing i).Bounded e.params := by
  unfold Yard.toClearing; try dsimp only
  all_goals simp (maxDischargeDepth := 60) [h]

@[simp] theorem Yard.Bounded.washDone (i : PointId) (h : y.Bounded e.params) : (y.washDone e i).Bounded e.params := by
  unfold Yard.washDone; try dsimp only
  repeat' split
  all_goals simp (maxDischargeDepth := 60) [h]

@[simp] theorem Yard.Bounded.washDown (i : PointId) (h : y.Bounded e.params) : (y.washDown e i).Bounded e.params := by
  unfold Yard.washDown; try dsimp only
  repeat' split
  all_goals simp (maxDischargeDepth := 60) [h]

@[simp] theorem Yard.Bounded.washFault (i : PointId) (c n : Nat) (h : y.Bounded e.params) : (y.washFault e i c n).Bounded e.params := by
  unfold Yard.washFault; try dsimp only
  repeat' split
  all_goals simp (maxDischargeDepth := 60) [h]

@[simp] theorem Yard.Bounded.washReady (i : PointId) (h : y.Bounded e.params) : (y.washReady e i).Bounded e.params := by
  unfold Yard.washReady; try dsimp only
  repeat' split
  all_goals simp (maxDischargeDepth := 60) [h]

@[simp] theorem Yard.Bounded.washRecoveryLapse (i : PointId) (h : y.Bounded e.params) : (y.washRecoveryLapse e i).Bounded e.params := by
  unfold Yard.washRecoveryLapse; try dsimp only
  repeat' split
  all_goals simp (maxDischargeDepth := 60) [h]

@[simp] theorem Yard.Bounded.washClear (i : PointId) (n : Option Nat) (h : y.Bounded e.params) : (y.washClear e i n).Bounded e.params := by
  unfold Yard.washClear; try dsimp only
  repeat' split
  all_goals simp (maxDischargeDepth := 60) [h]

@[simp] theorem Yard.Bounded.frostEntry (t : PoolEntry) (h : y.Bounded e.params) : (y.frostEntry e t).Bounded e.params := by
  unfold Yard.frostEntry; try dsimp only
  repeat' split
  all_goals simp (maxDischargeDepth := 60) [h]

@[simp] theorem Yard.Bounded.frostOn (h : y.Bounded e.params) : (y.frostOn e).Bounded e.params := by
  have h1 : ({ y with frost := true } : Yard).Bounded e.params := h.same rfl le_rfl rfl rfl rfl rfl rfl
  exact Yard.withPoints_bounded (map_update_keys Point.id _ (fun q => { q with state := .frozen }) (fun _ => rfl) _)
    (Yard.Bounded.foldl (fun _ t hz => hz.frostEntry t) y.washQueue h1)

@[simp] theorem Yard.Bounded.frostOff (h : y.Bounded e.params) : (y.frostOff).Bounded e.params :=
  h.same rfl le_rfl rfl rfl rfl (map_update_keys Point.id _ (Point.freed false) (Point.freed_id false) _) rfl

/-! ### The departure list -/

theorem Yard.mem_numbers {f : Nat} {b : Bus} (h : y.bus? f = some b) : f ∈ y.fleet.map Bus.fleet := by
  have h1 := List.find?_some h
  have h2 := List.mem_of_find?_eq_some h
  simp only [beq_iff_eq] at h1
  exact h1 ▸ List.mem_map_of_mem h2

theorem Yard.departure_none {f : Nat} (h : y.departure? f = none) : f ∉ y.departures.map Departure.bus := by
  intro hm
  obtain ⟨d, hd, e⟩ := List.mem_map.1 hm
  have := List.find?_eq_none.1 h d hd
  simp [e] at this

theorem nextMark_le (l : List Departure) : ∀ m, m ≤ l.foldl (fun m d => max m d.mark) m ∧
    ∀ d ∈ l, d.mark ≤ l.foldl (fun m d => max m d.mark) m := by
  induction l with
  | nil => intro m; simp
  | cons x rest ih =>
    intro m
    have h := ih (max m x.mark)
    refine ⟨le_trans (le_max_left _ _) h.1, ?_⟩
    intro d hd
    rcases List.mem_cons.1 hd with rfl | hd
    · exact le_trans (le_max_right _ _) h.1
    · exact h.2 d hd

theorem Yard.mark_lt_next {d : Departure} (h : d ∈ y.departures) : d.mark < y.nextMark :=
  Nat.lt_succ_of_le ((nextMark_le y.departures 0).2 d h)

theorem mem_insertDeparture {d x : Departure} {l : List Departure} : x ∈ insertDeparture d l ↔ x = d ∨ x ∈ l := by
  induction l with
  | nil => simp [insertDeparture]
  | cons a rest ih =>
    unfold insertDeparture
    split
    · simp only [List.mem_cons, ih]; tauto
    · simp

theorem insertDeparture_perm (d : Departure) (l : List Departure) : (insertDeparture d l).Perm (d :: l) := by
  induction l with
  | nil => exact List.Perm.refl _
  | cons a rest ih =>
    unfold insertDeparture
    split
    · exact ((List.Perm.cons a ih).trans (List.Perm.swap d a rest))
    · exact List.Perm.refl _

/-- A newest entry placed after every entry at or below its slot keeps the list order. -/
theorem insertDeparture_ordered {d : Departure} {l : List Departure} (hl : l.Pairwise Departure.Before)
    (hm : ∀ x ∈ l, x.mark < d.mark) : (insertDeparture d l).Pairwise Departure.Before := by
  induction l with
  | nil => simp [insertDeparture]
  | cons a rest ih =>
    have hl' := List.pairwise_cons.1 hl
    unfold insertDeparture
    split
    · rename_i hs
      refine List.pairwise_cons.2 ⟨?_, ih hl'.2 (fun x hx => hm x (List.mem_cons_of_mem _ hx))⟩
      intro x hx
      rcases mem_insertDeparture.1 hx with rfl | hx
      · have := hm a List.mem_cons_self
        unfold Departure.Before; omega
      · exact hl'.1 x hx
    · rename_i hs
      refine List.pairwise_cons.2 ⟨?_, hl⟩
      intro x hx
      rcases List.mem_cons.1 hx with rfl | hx
      · unfold Departure.Before; omega
      · have := hl'.1 x hx
        unfold Departure.Before at *; omega

/-- A newest entry of a bus that has none, placed in the list. -/
theorem Yard.Bounded.insert (d : Departure) (hf : d.bus ∈ y.fleet.map Bus.fleet) (hn : d.bus ∉ y.departures.map Departure.bus)
    (hm : ∀ x ∈ y.departures, x.mark < d.mark) (h : y.Bounded p) :
    ({ y with departures := insertDeparture d y.departures } : Yard).Bounded p := by
  refine ⟨h.mapRising, h.records, h.buses, h.pool, h.notices, insertDeparture_ordered h.listOrder hm, ?_, ?_, h.lanesRising, h.pointsRising,
    h.stationsRising⟩
  · have hp := (insertDeparture_perm d y.departures).map Departure.bus
    exact hp.nodup_iff.2 (List.nodup_cons.2 ⟨hn, h.oneEntry⟩)
  · intro x hx
    rcases mem_insertDeparture.1 hx with rfl | hx
    · exact hf
    · exact h.linked x hx

theorem Yard.Bounded.addSlot (f slot : Nat) (hf : f ∈ y.fleet.map Bus.fleet) (hn : y.departure? f = none)
    (h : y.Bounded e.params) : (y.addSlot e f slot).Bounded e.params :=
  (h.insert { slot, bus := f, state := .waiting, mark := y.nextMark, noticeSent := false, lapse := none } hf
    (Yard.departure_none hn) (fun _ hx => Yard.mark_lt_next hx)).keyChanged f

@[simp] theorem Yard.Bounded.moveSlot (f slot : Nat) (h : y.Bounded e.params) : (y.moveSlot e f slot).Bounded e.params := by
  unfold Yard.moveSlot
  split
  · exact h
  · rename_i d hd
    have hb : d.bus = f := by simpa using List.find?_some hd
    have hm := List.mem_of_find?_eq_some hd
    have hn : d.bus ∉ (y.dropDeparture f).departures.map Departure.bus := by
      intro hmem
      obtain ⟨x, hx, he⟩ := List.mem_map.1 hmem
      have := (List.mem_filter.1 hx).2
      simp [he, hb] at this
    have hi := Yard.Bounded.insert (y := y.dropDeparture f)
      { d with slot, mark := y.nextMark, state := .waiting, noticeSent := false } (h.linked d hm) hn
      (fun x hx => Yard.mark_lt_next (List.mem_filter.1 hx).1) (h.dropDeparture f)
    exact hi.keyChanged f

@[simp] theorem Yard.Bounded.removeSlot (f : Nat) (h : y.Bounded e.params) : (y.removeSlot e f).Bounded e.params := by
  unfold Yard.removeSlot; try dsimp only
  all_goals simp (maxDischargeDepth := 60) [h]

@[simp] theorem Yard.Bounded.handExit (f : Nat) (s : Bool) (h : y.Bounded e.params) : (y.handExit f s).Bounded e.params := by
  unfold Yard.handExit; try dsimp only
  repeat' split
  all_goals simp (maxDischargeDepth := 60) [h]

@[simp] theorem Yard.Bounded.releaseWithdrawn (f n : Nat) (h : y.Bounded e.params) : (y.releaseWithdrawn e f n).Bounded e.params := by
  unfold Yard.releaseWithdrawn; try dsimp only
  repeat' split
  all_goals simp (maxDischargeDepth := 60) [h]

@[simp] theorem Yard.Bounded.handLeft (f : Nat) (h : y.Bounded e.params) : (y.handLeft e f).Bounded e.params := by
  unfold Yard.handLeft; try dsimp only
  repeat' split
  all_goals simp (maxDischargeDepth := 60) [h]

@[simp] theorem Yard.Bounded.release (f n : Nat) (h : y.Bounded e.params) : (y.release e f n).Bounded e.params := by
  unfold Yard.release; try dsimp only
  all_goals simp (maxDischargeDepth := 60) [h]

@[simp] theorem Yard.recountInversions_departures (n : Nat) : (y.recountInversions e n).departures = y.departures := by
  unfold Yard.recountInversions; try dsimp only
  repeat' split
  all_goals simp

/-- Two buses exchanged between their entries keep the list's order and its one entry per bus (R132). -/
theorem Yard.Bounded.exchange (b c : Nat) (g : Departure → Departure) (hb : b ∈ y.fleet.map Bus.fleet)
    (hc : c ∈ y.fleet.map Bus.fleet)
    (hg : ∀ d, (g d).slot = d.slot ∧ (g d).mark = d.mark ∧ (g d).bus = if d.bus = b then c else if d.bus = c then b else d.bus)
    (h : y.Bounded p) : ({ y with departures := y.departures.map g } : Yard).Bounded p := by
  refine ⟨h.mapRising, h.records, h.buses, h.pool, h.notices, ?_, ?_, ?_, h.lanesRising, h.pointsRising, h.stationsRising⟩
  · rw [List.pairwise_map]
    refine h.listOrder.imp ?_
    intro d d' hd
    unfold Departure.Before at *
    simpa [hg] using hd
  · have he : (y.departures.map g).map Departure.bus =
        (y.departures.map Departure.bus).map (fun n => if n = b then c else if n = c then b else n) := by
      simp [List.map_map, Function.comp_def, hg]
    rw [he]
    refine List.Nodup.map ?_ h.oneEntry
    intro m n hmn
    simp only at hmn
    split_ifs at hmn <;> simp_all
  · intro d hd
    obtain ⟨d', hd', rfl⟩ := List.mem_map.1 hd
    rw [(hg d').2.2]
    split
    · exact hc
    · split
      · exact hb
      · exact h.linked d' hd'

theorem Yard.Bounded.swap (b c n r : Nat) (hb : b ∈ y.fleet.map Bus.fleet) (hc : c ∈ y.fleet.map Bus.fleet)
    (h : y.Bounded e.params) : (y.swap e b c n r).Bounded e.params := by
  unfold Yard.swap
  have hx := h.exchange b c (fun d : Departure =>
    if d.bus = b then { d with bus := c }
    else if d.bus = c then { d with bus := b, state := .waiting, noticeSent := false, lapse := none }
    else d) hb hc (by intro d; split_ifs <;> simp_all)
  exact (((hx.post _ _ _ _ _ _).keyChanged _).keyChanged _).release _ _

@[simp] theorem Yard.Bounded.keepHead (d : Departure) (b : Bus) (s : DepartureState) (h : y.Bounded e.params) : (y.keepHead e d b s).Bounded e.params := by
  unfold Yard.keepHead; try dsimp only
  repeat' split
  all_goals simp (maxDischargeDepth := 60) [h]

theorem Yard.readyLane_mem {f n : Nat} (h : y.readyLane? f = some n) : f ∈ y.fleet.map Bus.fleet := by
  unfold Yard.readyLane? at h
  split at h
  · cases h
  · rename_i hb; exact Yard.mem_numbers hb

theorem Yard.swapCandidate_mem {r : Nat} : ∀ {l : List Departure} {c n : Nat}, y.swapCandidate r l = some (c, n) →
    c ∈ y.fleet.map Bus.fleet
  | [], _, _, h => by cases h
  | d :: rest, c, n, h => by
    unfold Yard.swapCandidate at h
    split at h
    · rename_i hr
      split at h
      · cases h; exact Yard.readyLane_mem hr
      · exact Yard.swapCandidate_mem h
    · exact Yard.swapCandidate_mem h

theorem Yard.Bounded.searchOrKeep (d : Departure) (b : Bus) (s : DepartureState) (c : Option Nat)
    (hd : d.bus ∈ y.fleet.map Bus.fleet) (h : y.Bounded e.params) : (y.searchOrKeep e d b s c).Bounded e.params := by
  unfold Yard.searchOrKeep
  split
  · rename_i hs; exact h.swap _ _ _ _ hd (Yard.swapCandidate_mem hs)
  · dsimp only; split <;> simp (maxDischargeDepth := 60) [h]

theorem Yard.Bounded.assess (d : Departure) (b : Bus) (hd : d.bus ∈ y.fleet.map Bus.fleet) (h : y.Bounded e.params) :
    (y.assess e d b).Bounded e.params := by
  unfold Yard.assess
  repeat' split
  all_goals first | exact h.searchOrKeep _ _ _ _ hd | simp (maxDischargeDepth := 60) [h]

@[simp] theorem Yard.Bounded.takeHead (h : y.Bounded e.params) : (y.takeHead e).Bounded e.params := by
  unfold Yard.takeHead
  split
  · exact h
  · split
    · simp (maxDischargeDepth := 60) [h]
    · split
      · rename_i hb; exact h.assess _ _ (Yard.mem_numbers hb)
      · exact h

@[simp] theorem Yard.Bounded.pacingLapse (h : y.Bounded e.params) : (y.pacingLapse e).Bounded e.params := by
  unfold Yard.pacingLapse
  split
  · exact (h.same (z := { y with pacing := some e.params.pacingInterval }) rfl le_rfl rfl rfl rfl rfl rfl).takeHead
  · exact h

@[simp] theorem Yard.Bounded.releaseLapse (f : Nat) (h : y.Bounded e.params) : (y.releaseLapse e f).Bounded e.params := by
  unfold Yard.releaseLapse; try dsimp only
  repeat' split
  all_goals simp (maxDischargeDepth := 60) [h]

@[simp] theorem Yard.Bounded.missSlot (d : Departure) (h : y.Bounded e.params) : (y.missSlot e d).Bounded e.params := by
  unfold Yard.missSlot; try dsimp only
  all_goals simp (maxDischargeDepth := 60) [h]

@[simp] theorem Yard.Bounded.departuresRollover (h : y.Bounded e.params) : (y.departuresRollover e).Bounded e.params := by
  have h1 : ({ y with pullout := false, pacing := none } : Yard).Bounded e.params := h.same rfl le_rfl rfl rfl rfl rfl rfl
  exact Yard.Bounded.foldl (fun _ d hz => hz.missSlot d) _ h1

/-! ### Lanes -/

@[simp] theorem Yard.Bounded.place (f : Nat) (q : Position) (h : y.Bounded e.params) : (y.place f q).Bounded e.params := by
  unfold Yard.place; try dsimp only
  repeat' split
  all_goals simp (maxDischargeDepth := 60) [h]

@[simp] theorem Yard.Bounded.leaveLane (f m : Nat) (h : y.Bounded e.params) : (y.leaveLane e f m).Bounded e.params := by
  unfold Yard.leaveLane; try dsimp only
  repeat' split
  all_goals simp (maxDischargeDepth := 60) [h]

@[simp] theorem Yard.Bounded.reportPosition (r : Bool) (f : Nat) (q : Position) (h : y.Bounded e.params) : (y.reportPosition e r f q).Bounded e.params := by
  unfold Yard.reportPosition; try dsimp only
  repeat' split
  all_goals simp (maxDischargeDepth := 60) [h]

@[simp] theorem Yard.Bounded.reportCleared (i : PointId) (f : Nat) (h : y.Bounded e.params) : (y.reportCleared i f).Bounded e.params := by
  unfold Yard.reportCleared; try dsimp only
  repeat' split
  all_goals simp (maxDischargeDepth := 60) [h]

@[simp] theorem Yard.Bounded.dropReservation (n f : Nat) (h : y.Bounded e.params) : (y.dropReservation n f).Bounded e.params := by
  unfold Yard.dropReservation; try dsimp only
  all_goals simp (maxDischargeDepth := 60) [h]

@[simp] theorem Yard.Bounded.shuntCancelled (f c n : Nat) (h : y.Bounded e.params) : (y.shuntCancelled e f c n).Bounded e.params := by
  unfold Yard.shuntCancelled; try dsimp only
  all_goals simp (maxDischargeDepth := 60) [h]

@[simp] theorem Yard.Bounded.cancelShunt (f c : Nat) (was : Option Nat) (h : y.Bounded e.params) : (y.cancelShunt e f c was).Bounded e.params := by
  unfold Yard.cancelShunt; try dsimp only
  repeat' split
  all_goals simp (maxDischargeDepth := 60) [h]

@[simp] theorem Yard.Bounded.withdrawRelease (n : Nat) (removed : Option (Nat × Nat)) (h : y.Bounded e.params) : (y.withdrawRelease e n removed).Bounded e.params := by
  unfold Yard.withdrawRelease; try dsimp only
  repeat' split
  all_goals simp (maxDischargeDepth := 60) [h]

theorem Yard.Bounded.evict (n : Nat) : ∀ (k : Nat) (a : Yard × Evictions), a.1.Bounded e.params →
    (Yard.evict e n k a).1.Bounded e.params
  | 0, _, h => h
  | k + 1, (z, ev), h => by
    unfold Yard.evict
    split
    · exact h
    · split
      · exact h
      · split
        · exact h
        · split
          · exact Yard.Bounded.evict n k _ (by have h' : z.Bounded e.params := h; simp (maxDischargeDepth := 60) [h'])
          · exact Yard.Bounded.evict n k _ (by have h' : z.Bounded e.params := h; simp (maxDischargeDepth := 60) [h'])

@[simp] theorem Yard.Bounded.capacityRule (n f : Nat) (h : y.Bounded e.params) : (y.capacityRule e n f).1.Bounded e.params := by
  unfold Yard.capacityRule
  split
  · exact h
  · dsimp only
    split
    · exact (Yard.Bounded.evict n _ _ h).setOverfull _ _
    · exact Yard.Bounded.evict n _ _ h

@[simp] theorem Yard.Bounded.rerunDropped (ev : Evictions) (h : y.Bounded e.params) : (y.rerunDropped e ev).Bounded e.params := by
  exact Yard.Bounded.foldl (fun _ d hz => hz.reservationDropped d) _ h

@[simp] theorem Yard.Bounded.entryTaken (f : Nat) (k : ReservationKind) (h : y.Bounded e.params) : (y.entryTaken e f k).Bounded e.params := by
  unfold Yard.entryTaken; try dsimp only
  repeat' split
  all_goals simp (maxDischargeDepth := 60) [h]

@[simp] theorem Yard.Bounded.clearMismatch (n : Nat) (h : y.Bounded e.params) : (y.clearMismatch n).Bounded e.params := by
  unfold Yard.clearMismatch; try dsimp only
  all_goals simp (maxDischargeDepth := 60) [h]

@[simp] theorem Yard.Bounded.entryNotice (f n : Nat) (o : Position) (r : Option (Nat × Reservation)) (v : Nat) (h : y.Bounded e.params) : (y.entryNotice e f n o r v).Bounded e.params := by
  unfold Yard.entryNotice; try dsimp only
  repeat' split
  all_goals simp (maxDischargeDepth := 60) [h]

@[simp] theorem Yard.Bounded.entryPlan (f : Nat) (r : Option (Nat × Reservation)) (h : y.Bounded e.params) : (y.entryPlan e f r).Bounded e.params := by
  unfold Yard.entryPlan; try dsimp only
  repeat' split
  all_goals simp (maxDischargeDepth := 60) [h]

@[simp] theorem Yard.Bounded.enteredKnown (n f : Nat) (h : y.Bounded e.params) : (y.enteredKnown e n f).Bounded e.params := by
  unfold Yard.enteredKnown
  split
  · dsimp only
    repeat' split
    all_goals simp (maxDischargeDepth := 60) [h]
  · exact h

@[simp] theorem Yard.Bounded.enteredUnknown (n : Nat) (h : y.Bounded e.params) : (y.enteredUnknown e n).Bounded e.params := by
  unfold Yard.enteredUnknown; try dsimp only
  repeat' split
  all_goals simp (maxDischargeDepth := 60) [h]

@[simp] theorem Yard.Bounded.entryLapse (f : Nat) (h : y.Bounded e.params) : (y.entryLapse e f).Bounded e.params := by
  unfold Yard.entryLapse; try dsimp only
  repeat' split
  all_goals simp (maxDischargeDepth := 60) [h]

@[simp] theorem Yard.Bounded.unsanctioned (n f : Nat) (r : Option (Nat × ReleaseReason)) (h : y.Bounded e.params) : (y.unsanctioned e n f r).Bounded e.params := by
  unfold Yard.unsanctioned; try dsimp only
  all_goals simp (maxDischargeDepth := 60) [h]

@[simp] theorem Yard.Bounded.exitedKnown (n f : Nat) (h : y.Bounded e.params) : (y.exitedKnown e n f).Bounded e.params := by
  unfold Yard.exitedKnown; try dsimp only
  repeat' split
  all_goals simp (maxDischargeDepth := 60) [h]

@[simp] theorem Yard.Bounded.exitedUnknown (n : Nat) (h : y.Bounded e.params) : (y.exitedUnknown e n).Bounded e.params := by
  unfold Yard.exitedUnknown; try dsimp only
  all_goals simp (maxDischargeDepth := 60) [h]

@[simp] theorem Yard.Bounded.reload (f : Nat) (h : y.Bounded e.params) : (y.reload e f).Bounded e.params := by
  unfold Yard.reload; try dsimp only
  all_goals simp (maxDischargeDepth := 60) [h]

@[simp] theorem Yard.Bounded.occupancy (n : Nat) (m : BitVec 12) (h : y.Bounded e.params) : (y.occupancy e n m).Bounded e.params := by
  have hr : ∀ (l : List Nat) (z : Yard), z.Bounded e.params → (l.foldl (fun y f => y.reload e f) z).Bounded e.params :=
    fun l _ hz => Yard.Bounded.foldl (fun _ f hw => hw.reload f) l hz
  unfold Yard.occupancy; try dsimp only
  repeat' split
  all_goals simp (maxDischargeDepth := 60) [h, hr]

@[simp] theorem Yard.Bounded.tagSeen (n : Nat) (k : Option Nat) (h : y.Bounded e.params) : (y.tagSeen e n k).Bounded e.params := by
  unfold Yard.tagSeen; try dsimp only
  repeat' split
  all_goals simp (maxDischargeDepth := 60) [h]

@[simp] theorem Yard.Bounded.laneDark (n : Nat) (h : y.Bounded e.params) : (y.laneDark n).Bounded e.params := by
  unfold Yard.laneDark; try dsimp only
  all_goals simp (maxDischargeDepth := 60) [h]

@[simp] theorem Yard.Bounded.laneAlive (n : Nat) (h : y.Bounded e.params) : (y.laneAlive e n).Bounded e.params := by
  unfold Yard.laneAlive; try dsimp only
  repeat' split
  all_goals simp (maxDischargeDepth := 60) [h]

@[simp] theorem Yard.Bounded.laneRestarted (n : Nat) (h : y.Bounded e.params) : (y.laneRestarted e n).Bounded e.params := by
  unfold Yard.laneRestarted; try dsimp only
  repeat' split
  all_goals simp (maxDischargeDepth := 60) [h]

@[simp] theorem Yard.Bounded.startShunt (b : Bus) (s t : Nat) (h : y.Bounded e.params) : (y.startShunt e b s t).Bounded e.params := by
  unfold Yard.startShunt; try dsimp only
  all_goals simp (maxDischargeDepth := 60) [h]

@[simp] theorem Yard.Bounded.setLeave (n f : Nat) (h : y.Bounded e.params) : (y.setLeave e n f).Bounded e.params := by
  unfold Yard.setLeave; try dsimp only
  repeat' split
  all_goals simp (maxDischargeDepth := 60) [h]

@[simp] theorem Yard.Bounded.setUnreserve (f : Nat) (h : y.Bounded e.params) : (y.setUnreserve e f).Bounded e.params := by
  unfold Yard.setUnreserve; try dsimp only
  repeat' split
  all_goals simp (maxDischargeDepth := 60) [h]

@[simp] theorem Yard.Bounded.settleOverfull (n : Nat) (h : y.Bounded e.params) : (y.settleOverfull e n).Bounded e.params := by
  unfold Yard.settleOverfull; try dsimp only
  repeat' split
  all_goals simp (maxDischargeDepth := 60) [h]

@[simp] theorem Yard.Bounded.laneSet (n : Nat) (l : List Nat) (h : y.Bounded e.params) : (y.laneSet e n l).Bounded e.params := by
  have h1 : ∀ (l : List Nat) (z : Yard), z.Bounded e.params → (l.foldl (Yard.setLeave e n) z).Bounded e.params :=
    fun l _ hz => Yard.Bounded.foldl (fun _ f hw => hw.setLeave n f) l hz
  have h2 : ∀ (l : List Nat) (z : Yard), z.Bounded e.params → (l.foldl (Yard.setUnreserve e) z).Bounded e.params :=
    fun l _ hz => Yard.Bounded.foldl (fun _ f hw => hw.setUnreserve f) l hz
  have h3 : ∀ (q : Position) (l : List Nat) (z : Yard), z.Bounded e.params →
      (l.foldl (fun y f => y.place f q) z).Bounded e.params :=
    fun q l _ hz => Yard.Bounded.foldl (fun _ f hw => hw.place f q) l hz
  unfold Yard.laneSet
  split
  · exact h
  · dsimp only
    repeat' split
    all_goals simp (maxDischargeDepth := 60) [h, h1, h2, h3]

/-! ### Claims given back, teardown -/

@[simp] theorem Yard.Bounded.dropCall (f : Nat) (h : y.Bounded e.params) : (y.dropCall f).Bounded e.params := by
  unfold Yard.dropCall; try dsimp only
  repeat' split
  all_goals simp (maxDischargeDepth := 60) [h]

@[simp] theorem Yard.Bounded.dropBerth (f : Nat) (h : y.Bounded e.params) : (y.dropBerth e f).Bounded e.params := by
  unfold Yard.dropBerth; try dsimp only
  repeat' split
  all_goals simp (maxDischargeDepth := 60) [h]

@[simp] theorem Yard.Bounded.giveBack (b : Bus) (h : y.Bounded e.params) : (y.giveBack e b).Bounded e.params := by
  unfold Yard.giveBack; try dsimp only
  repeat' split
  all_goals simp (maxDischargeDepth := 60) [h]

@[simp] theorem Yard.Bounded.abortPlan (b : Bus) (h : y.Bounded e.params) : (y.abortPlan e b).Bounded e.params := by
  unfold Yard.abortPlan; try dsimp only
  all_goals simp (maxDischargeDepth := 60) [h]

@[simp] theorem Yard.Bounded.forgetBus (f : Nat) (h : y.Bounded e.params) : (y.forgetBus f).Bounded e.params := by
  unfold Yard.forgetBus
  split
  · exact (Yard.withPoints_bounded
      (map_update_keys Point.id (fun q => q.bus = some f) (fun q => { q with bus := none }) (fun _ => rfl) _) h).raise
  · exact h

@[simp] theorem Yard.Bounded.dropTurn (b : Bus) (h : y.Bounded e.params) : (y.dropTurn b).Bounded e.params := by
  unfold Yard.dropTurn
  split
  · exact (h.dropCall _).freeTurn _
  · exact h.freeTurn _

@[simp] theorem Yard.Bounded.unreserveAll (f : Nat) (h : y.Bounded e.params) : (y.unreserveAll f).Bounded e.params :=
  Yard.Bounded.foldl (fun _ n hz => hz.dropReservation n f) _ h

@[simp] theorem Yard.Bounded.unclaimAll (f : Nat) (h : y.Bounded e.params) : (y.unclaimAll f).Bounded e.params :=
  Yard.Bounded.foldl (fun _ n hz => hz.clearRelease n) _ h

@[simp] theorem Yard.Bounded.dropFromLanes (f : Nat) (h : y.Bounded e.params) : (y.dropFromLanes e f).Bounded e.params := by
  unfold Yard.dropFromLanes; dsimp only
  split
  · exact ((h.unreserveAll f).unclaimAll f).rerunWaits
  · exact (h.unreserveAll f).unclaimAll f

@[simp] theorem Yard.Bounded.tearDown (b : Bus) (h : y.Bounded e.params) : (y.tearDown e b).Bounded e.params := by
  unfold Yard.tearDown; dsimp only
  have h1 := ((((h.dropTurn b).leaveWaits b.fleet).dropFromLanes b.fleet).forgetBus b.fleet).dropDeparture b.fleet
  have hmap : ∀ l : List Bus, (l.filter (fun c => c.fleet != b.fleet)).map Bus.fleet =
      (l.map Bus.fleet).filter (fun f => f != b.fleet) := by
    intro l; rw [List.filter_map]; rfl
  refine ⟨?_, le_trans (List.length_filter_le _ _) h1.records, fun c hc => h1.buses c (List.mem_of_mem_filter hc), h1.pool,
    h1.notices, h1.listOrder, h1.oneEntry, ?_, h1.lanesRising, h1.pointsRising, h1.stationsRising⟩
  · rw [hmap]; exact h1.mapRising.filter _
  · intro d hd
    rw [hmap]
    have hd' := List.mem_filter.1 hd
    exact List.mem_filter.2 ⟨h1.linked d hd, hd'.2⟩

/-! ### Reports and the line -/

@[simp] theorem Yard.Bounded.pointFaulted (i : PointId) (c n : Nat) (h : y.Bounded e.params) : (y.pointFaulted e i c n).Bounded e.params := by
  unfold Yard.pointFaulted; try dsimp only
  repeat' split
  all_goals simp (maxDischargeDepth := 60) [h]

@[simp] theorem Yard.Bounded.pointReady (i : PointId) (h : y.Bounded e.params) : (y.pointReady e i).Bounded e.params := by
  unfold Yard.pointReady; try dsimp only
  repeat' split
  all_goals simp (maxDischargeDepth := 60) [h]

@[simp] theorem Yard.Bounded.pointClear (i : PointId) (n : Option Nat) (h : y.Bounded e.params) : (y.pointClear e i n).Bounded e.params := by
  unfold Yard.pointClear; try dsimp only
  repeat' split
  all_goals simp (maxDischargeDepth := 60) [h]

@[simp] theorem Yard.Bounded.ownerLost (o : Option Place) (h : y.Bounded e.params) : (y.ownerLost e o).Bounded e.params := by
  unfold Yard.ownerLost; try dsimp only
  repeat' split
  all_goals simp (maxDischargeDepth := 60) [h]

@[simp] theorem Yard.Bounded.ownerAlive (o : Option Place) (h : y.Bounded e.params) : (y.ownerAlive e o).Bounded e.params := by
  unfold Yard.ownerAlive; try dsimp only
  repeat' split
  all_goals simp (maxDischargeDepth := 60) [h]

@[simp] theorem Yard.Bounded.stationFailure (a : Nat) (h : y.Bounded e.params) : (y.stationFailure e a).Bounded e.params := by
  unfold Yard.stationFailure; try dsimp only
  repeat' split
  all_goals simp (maxDischargeDepth := 60) [h]

@[simp] theorem Yard.Bounded.stationValid (a : Nat) (h : y.Bounded e.params) : (y.stationValid e a).Bounded e.params := by
  unfold Yard.stationValid; try dsimp only
  repeat' split
  all_goals simp (maxDischargeDepth := 60) [h]

@[simp] theorem Yard.Bounded.gateArrived (f : Nat) (h : y.Bounded e.params) : (y.gateArrived e f).Bounded e.params := by
  unfold Yard.gateArrived; try dsimp only
  repeat' split
  all_goals simp (maxDischargeDepth := 60) [h]

@[simp] theorem Yard.Bounded.gateLeft (f : Nat) (h : y.Bounded e.params) : (y.gateLeft e f).Bounded e.params := by
  unfold Yard.gateLeft; try dsimp only
  all_goals simp (maxDischargeDepth := 60) [h]

@[simp] theorem Yard.Bounded.gateReport (r : Report) (h : y.Bounded e.params) : (y.gateReport e r).Bounded e.params := by
  unfold Yard.gateReport; try dsimp only
  repeat' split
  all_goals simp (maxDischargeDepth := 60) [h]

@[simp] theorem Yard.Bounded.laneReport (n : Nat) (r : Report) (h : y.Bounded e.params) : (y.laneReport e n r).Bounded e.params := by
  unfold Yard.laneReport; try dsimp only
  repeat' split
  all_goals simp (maxDischargeDepth := 60) [h]

@[simp] theorem Yard.Bounded.clearReport (i : PointId) (r : Report) (h : y.Bounded e.params) : (y.clearReport e i r).Bounded e.params := by
  unfold Yard.clearReport; try dsimp only
  repeat' split
  all_goals simp (maxDischargeDepth := 60) [h]

@[simp] theorem Yard.Bounded.pointReport (i : PointId) (r : Report) (h : y.Bounded e.params) : (y.pointReport e i r).Bounded e.params := by
  unfold Yard.pointReport; try dsimp only
  repeat' split
  all_goals simp (maxDischargeDepth := 60) [h]

@[simp] theorem Yard.Bounded.ownerReport (o : Option Place) (r : Report) (h : y.Bounded e.params) : (y.ownerReport e o r).Bounded e.params := by
  unfold Yard.ownerReport; try dsimp only
  repeat' split
  all_goals simp (maxDischargeDepth := 60) [h]

@[simp] theorem Yard.Bounded.resolve (t : Station) (r : Report) (h : y.Bounded e.params) : (y.resolve e t r).Bounded e.params := by
  unfold Yard.resolve; try dsimp only
  repeat' split
  all_goals simp (maxDischargeDepth := 60) [h]

@[simp] theorem Yard.Bounded.routeReport (a : Nat) (r : Report) (h : y.Bounded e.params) : (y.routeReport e a r).Bounded e.params := by
  unfold Yard.routeReport; try dsimp only
  repeat' split
  all_goals simp (maxDischargeDepth := 60) [h]

@[simp] theorem Yard.Bounded.queueDeferred (i : PointId) (h : y.Bounded e.params) : (y.queueDeferred i).Bounded e.params := by
  unfold Yard.queueDeferred; try dsimp only
  repeat' split
  all_goals simp (maxDischargeDepth := 60) [h]

@[simp] theorem Yard.Bounded.endCommand (c : LineCommand) (o : CommandOutcome) (h : y.Bounded e.params) : (y.endCommand e c o).Bounded e.params := by
  unfold Yard.endCommand; dsimp only
  split
  · split
    · exact (Yard.withInFlight_bounded h).setLane _ _ (fun _ => rfl)
    · exact Yard.withInFlight_bounded h
  · split
    · exact (Yard.withInFlight_bounded (h.pointFaulted _ _ _)).queueDeferred _
    · exact (Yard.withInFlight_bounded h).queueDeferred _
    · exact (Yard.withInFlight_bounded h).queueDeferred _

@[simp] theorem Yard.Bounded.handTaken (o : Place) (h : y.Bounded e.params) : (y.handTaken o).Bounded e.params := by
  unfold Yard.handTaken; try dsimp only
  repeat' split
  all_goals simp (maxDischargeDepth := 60) [h]

@[simp] theorem Yard.Bounded.askResult (a : Ask) (c q : Nat) (h : y.Bounded e.params) : (y.askResult e a c q).Bounded e.params := by
  unfold Yard.askResult; try dsimp only
  all_goals simp (maxDischargeDepth := 60) [h]

@[simp] theorem Yard.Bounded.askHealth (o : WindowOutcome) (h : y.Bounded e.params) : (y.askHealth e o).Bounded e.params := by
  unfold Yard.askHealth; try dsimp only
  repeat' split
  all_goals simp (maxDischargeDepth := 60) [h]

@[simp] theorem Yard.Bounded.resetLine (h : y.Bounded e.params) : (y.resetLine).Bounded e.params :=
  h.same rfl le_rfl rfl rfl (by simp [Yard.resetLine, Function.comp_def]) (by simp [Yard.resetLine, Function.comp_def])
    (by simp [Yard.resetLine, Function.comp_def])

@[simp] theorem Yard.Bounded.ownersRestarted (h : y.Bounded e.params) : (y.ownersRestarted e).Bounded e.params := by
  unfold Yard.ownersRestarted; dsimp only
  exact Yard.Bounded.foldl (fun _ i hz => hz.pointRestarted i) _
    (Yard.Bounded.foldl (fun _ n hz => hz.laneRestarted n) _ h)

/-! ### Clocks -/

@[simp] theorem Yard.Bounded.tick (h : y.Bounded e.params) : (y.tick).Bounded e.params := by
  refine ⟨?_, ?_, ?_, h.pool, h.notices, ?_, ?_, ?_, ?_, ?_, h.stationsRising⟩
  · rw [show y.tick.fleet = y.fleet.map Bus.tick from rfl, Yard.fleetNumbers_map Bus.tick (fun _ => rfl)]; exact h.mapRising
  · simpa [Yard.tick] using h.records
  · intro b hb
    obtain ⟨c, hc, rfl⟩ := List.mem_map.1 hb
    exact ⟨(h.buses c hc).age, (h.buses c hc).missedCalls, (h.buses c hc).fuelTaken⟩
  · show (y.departures.map Departure.tick).Pairwise _
    rw [List.pairwise_map]; exact h.listOrder
  · show ((y.departures.map Departure.tick).map Departure.bus).Nodup
    rw [List.map_map]; exact h.oneEntry
  · rw [show y.tick.fleet = y.fleet.map Bus.tick from rfl, Yard.fleetNumbers_map Bus.tick (fun _ => rfl)]
    intro d hd
    obtain ⟨d', hd', rfl⟩ := List.mem_map.1 hd
    exact h.linked d' hd'
  · show LanesRising ((y.lanes.map Lane.tick).map Lane.number)
    rw [List.map_map]; exact h.lanesRising
  · show PointsRising ((y.points.map Point.tick).map Point.id)
    rw [List.map_map]; exact h.pointsRising

@[simp] theorem Yard.Bounded.newDay (h : y.Bounded e.params) : (y.newDay e).Bounded e.params := by
  unfold Yard.newDay; dsimp only
  have h1 := h.post e .dayRolled 0 none 0 0
  have h2 := h1.mapFleet Bus.newDay (fun _ => rfl) (fun b hb => ⟨hb.age, Nat.zero_le _, Nat.zero_le _⟩)
  exact (Yard.withPoints_bounded (by simp [Function.comp_def]) h2).departuresRollover

@[simp] theorem Yard.Bounded.sightLost (b : Bus) (h : y.Bounded e.params) : (y.sightLost e b).Bounded e.params := by
  unfold Yard.sightLost; try dsimp only
  all_goals simp (maxDischargeDepth := 60) [h]

@[simp] theorem Yard.Bounded.supervise (h : y.Bounded e.params) : (y.supervise e).Bounded e.params := by
  unfold Yard.supervise
  split
  · dsimp only
    refine Yard.Bounded.foldl (fun _ b hz => hz.sightLost b) _ ?_
    have h1 := h.mapFleet Bus.lowered (fun b => by unfold Bus.lowered; split <;> rfl)
      (fun b hb => by unfold Bus.lowered; split <;> simp_all; omega)
    exact h1.same rfl le_rfl rfl rfl rfl rfl rfl
  · exact h

@[simp] theorem Yard.Bounded.holdLapse (f : Nat) (h : y.Bounded e.params) : (y.holdLapse e f).Bounded e.params := by
  unfold Yard.holdLapse; try dsimp only
  repeat' split
  all_goals simp (maxDischargeDepth := 60) [h]

theorem Yard.Bounded.retime (old new : Params)
    (h : y.Bounded old) : (y.retime old new).Bounded new := by
  unfold Yard.retime
  have hbus : ∀ b : Bus, b.Bounded old → ({ b with age := min b.age new.sightingReload } : Bus).Bounded new := by
    intro b hb; exact ⟨Nat.min_le_right _ _, hb.missedCalls, hb.fuelTaken⟩
  split
  · refine ⟨?_, ?_, ?_, h.pool, h.notices, h.listOrder, h.oneEntry, ?_, h.lanesRising, h.pointsRising, h.stationsRising⟩
    · exact (Yard.fleetNumbers_map (fun b => { b with age := min b.age new.sightingReload }) (fun _ => rfl) y.fleet).symm ▸
        h.mapRising
    · simpa using h.records
    · intro b hb
      obtain ⟨c, hc, rfl⟩ := List.mem_map.1 hb
      exact hbus c (h.buses c hc)
    · exact (Yard.fleetNumbers_map (fun b => { b with age := min b.age new.sightingReload }) (fun _ => rfl) y.fleet).symm ▸
        h.linked
  · refine ⟨h.mapRising, h.records, ?_, h.pool, h.notices, h.listOrder, h.oneEntry, h.linked, h.lanesRising, h.pointsRising,
      h.stationsRising⟩
    intro b hb
    have := h.buses b hb
    exact ⟨le_trans this.age (by omega), this.missedCalls, this.fuelTaken⟩

end Sys2Proof.Machine
end

