-- ==== Sys2Proof/Laws/Lookup.lean ====
section
/-!
SUPPORT. What a lookup finds after an update: the record changed, if the update is of that record, and otherwise what it found before.
-/
namespace Sys2Proof.Machine

/-- A lookup by a key after a change of the records with some key, when the change keeps keys. -/
theorem find?_update {α κ : Type} [DecidableEq κ] (key : α → κ) (k : κ) (g : α → α) (hg : ∀ x, key (g x) = key x) (j : κ)
    (l : List α) :
    (l.map (fun x => if key x = k then g x else x)).find? (fun x => key x == j) =
      if j = k then (l.find? (fun x => key x == j)).map g else l.find? (fun x => key x == j) := by
  induction l with
  | nil => simp
  | cons a rest ih =>
    by_cases ha : key a = k
    · by_cases hj : j = k
      · subst hj; simp [ha, hg]
      · have : ¬ k = j := fun h => hj h.symm
        simp_all
    · by_cases haj : key a = j
      · have : ¬ j = k := fun h => ha (haj.trans h)
        simp [haj, this]
      · simp [ha, haj]
        simpa using ih

variable (y : Yard)

/-! ### Updates of other records -/

@[simp] theorem Yard.lane_setBus (f : Nat) (g : Bus → Bus) (k : Nat) : (y.setBus f g).lane? k = y.lane? k := rfl
@[simp] theorem Yard.point_setBus (f : Nat) (g : Bus → Bus) (k : PointId) : (y.setBus f g).point? k = y.point? k := rfl
@[simp] theorem Yard.station_setBus (f : Nat) (g : Bus → Bus) (k : Nat) : (y.setBus f g).station? k = y.station? k := rfl
@[simp] theorem Yard.departure_setBus (f : Nat) (g : Bus → Bus) (k : Nat) : (y.setBus f g).departure? k = y.departure? k := rfl
@[simp] theorem Yard.turn_setBus (f : Nat) (g : Bus → Bus) (k : Nat) : (y.setBus f g).turn? k = y.turn? k := rfl
@[simp] theorem Yard.reservation_setBus (f : Nat) (g : Bus → Bus) (k : Nat) : (y.setBus f g).reservation? k = y.reservation? k := rfl
@[simp] theorem Yard.unsent_setBus (f : Nat) (g : Bus → Bus) (k : Place) : (y.setBus f g).unsent? k = y.unsent? k := rfl

@[simp] theorem Yard.bus_setLane (n : Nat) (g : Lane → Lane) (k : Nat) : (y.setLane n g).bus? k = y.bus? k := rfl
@[simp] theorem Yard.point_setLane (n : Nat) (g : Lane → Lane) (k : PointId) : (y.setLane n g).point? k = y.point? k := rfl
@[simp] theorem Yard.station_setLane (n : Nat) (g : Lane → Lane) (k : Nat) : (y.setLane n g).station? k = y.station? k := rfl
@[simp] theorem Yard.departure_setLane (n : Nat) (g : Lane → Lane) (k : Nat) : (y.setLane n g).departure? k = y.departure? k := rfl
@[simp] theorem Yard.turn_setLane (n : Nat) (g : Lane → Lane) (k : Nat) : (y.setLane n g).turn? k = y.turn? k := rfl
@[simp] theorem Yard.unsent_setLane (n : Nat) (g : Lane → Lane) (k : Place) : (y.setLane n g).unsent? k = y.unsent? k := rfl

@[simp] theorem Yard.bus_setPoint (i : PointId) (g : Point → Point) (k : Nat) : (y.setPoint i g).bus? k = y.bus? k := rfl
@[simp] theorem Yard.lane_setPoint (i : PointId) (g : Point → Point) (k : Nat) : (y.setPoint i g).lane? k = y.lane? k := rfl
@[simp] theorem Yard.station_setPoint (i : PointId) (g : Point → Point) (k : Nat) : (y.setPoint i g).station? k = y.station? k := rfl
@[simp] theorem Yard.departure_setPoint (i : PointId) (g : Point → Point) (k : Nat) : (y.setPoint i g).departure? k = y.departure? k := rfl
@[simp] theorem Yard.turn_setPoint (i : PointId) (g : Point → Point) (k : Nat) : (y.setPoint i g).turn? k = y.turn? k := rfl
@[simp] theorem Yard.reservation_setPoint (i : PointId) (g : Point → Point) (k : Nat) : (y.setPoint i g).reservation? k = y.reservation? k := rfl
@[simp] theorem Yard.unsent_setPoint (i : PointId) (g : Point → Point) (k : Place) : (y.setPoint i g).unsent? k = y.unsent? k := rfl

@[simp] theorem Yard.bus_setStation (a : Nat) (g : Station → Station) (k : Nat) : (y.setStation a g).bus? k = y.bus? k := rfl
@[simp] theorem Yard.lane_setStation (a : Nat) (g : Station → Station) (k : Nat) : (y.setStation a g).lane? k = y.lane? k := rfl
@[simp] theorem Yard.point_setStation (a : Nat) (g : Station → Station) (k : PointId) : (y.setStation a g).point? k = y.point? k := rfl
@[simp] theorem Yard.departure_setStation (a : Nat) (g : Station → Station) (k : Nat) : (y.setStation a g).departure? k = y.departure? k := rfl
@[simp] theorem Yard.turn_setStation (a : Nat) (g : Station → Station) (k : Nat) : (y.setStation a g).turn? k = y.turn? k := rfl
@[simp] theorem Yard.reservation_setStation (a : Nat) (g : Station → Station) (k : Nat) : (y.setStation a g).reservation? k = y.reservation? k := rfl
@[simp] theorem Yard.unsent_setStation (a : Nat) (g : Station → Station) (k : Place) : (y.setStation a g).unsent? k = y.unsent? k := rfl

@[simp] theorem Yard.bus_setDeparture (f : Nat) (g : Departure → Departure) (k : Nat) : (y.setDeparture f g).bus? k = y.bus? k := rfl
@[simp] theorem Yard.lane_setDeparture (f : Nat) (g : Departure → Departure) (k : Nat) : (y.setDeparture f g).lane? k = y.lane? k := rfl
@[simp] theorem Yard.point_setDeparture (f : Nat) (g : Departure → Departure) (k : PointId) : (y.setDeparture f g).point? k = y.point? k := rfl
@[simp] theorem Yard.station_setDeparture (f : Nat) (g : Departure → Departure) (k : Nat) : (y.setDeparture f g).station? k = y.station? k := rfl
@[simp] theorem Yard.turn_setDeparture (f : Nat) (g : Departure → Departure) (k : Nat) : (y.setDeparture f g).turn? k = y.turn? k := rfl
@[simp] theorem Yard.reservation_setDeparture (f : Nat) (g : Departure → Departure) (k : Nat) : (y.setDeparture f g).reservation? k = y.reservation? k := rfl
@[simp] theorem Yard.unsent_setDeparture (f : Nat) (g : Departure → Departure) (k : Place) : (y.setDeparture f g).unsent? k = y.unsent? k := rfl

@[simp] theorem Yard.bus_dropDeparture (f : Nat) (k : Nat) : (y.dropDeparture f).bus? k = y.bus? k := rfl
@[simp] theorem Yard.lane_dropDeparture (f : Nat) (k : Nat) : (y.dropDeparture f).lane? k = y.lane? k := rfl
@[simp] theorem Yard.point_dropDeparture (f : Nat) (k : PointId) : (y.dropDeparture f).point? k = y.point? k := rfl
@[simp] theorem Yard.station_dropDeparture (f : Nat) (k : Nat) : (y.dropDeparture f).station? k = y.station? k := rfl
@[simp] theorem Yard.turn_dropDeparture (f : Nat) (k : Nat) : (y.dropDeparture f).turn? k = y.turn? k := rfl
@[simp] theorem Yard.reservation_dropDeparture (f : Nat) (k : Nat) : (y.dropDeparture f).reservation? k = y.reservation? k := rfl
@[simp] theorem Yard.unsent_dropDeparture (f : Nat) (k : Place) : (y.dropDeparture f).unsent? k = y.unsent? k := rfl

@[simp] theorem Yard.lane_setWait (f : Nat) (w : PlanWait) (k : Nat) : (y.setWait f w).lane? k = y.lane? k := rfl
@[simp] theorem Yard.point_setWait (f : Nat) (w : PlanWait) (k : PointId) : (y.setWait f w).point? k = y.point? k := rfl
@[simp] theorem Yard.station_setWait (f : Nat) (w : PlanWait) (k : Nat) : (y.setWait f w).station? k = y.station? k := rfl
@[simp] theorem Yard.departure_setWait (f : Nat) (w : PlanWait) (k : Nat) : (y.setWait f w).departure? k = y.departure? k := rfl
@[simp] theorem Yard.turn_setWait (f : Nat) (w : PlanWait) (k : Nat) : (y.setWait f w).turn? k = y.turn? k := rfl
@[simp] theorem Yard.reservation_setWait (f : Nat) (w : PlanWait) (k : Nat) : (y.setWait f w).reservation? k = y.reservation? k := rfl
@[simp] theorem Yard.unsent_setWait (f : Nat) (w : PlanWait) (k : Place) : (y.setWait f w).unsent? k = y.unsent? k := rfl

@[simp] theorem Yard.bus_post (e : Env) (kind : NoticeKind) (f : Nat) (p : Option Place) (c q : Nat) (k : Nat) : (y.post e kind f p c q).bus? k = y.bus? k := rfl
@[simp] theorem Yard.lane_post (e : Env) (kind : NoticeKind) (f : Nat) (p : Option Place) (c q : Nat) (k : Nat) : (y.post e kind f p c q).lane? k = y.lane? k := rfl
@[simp] theorem Yard.point_post (e : Env) (kind : NoticeKind) (f : Nat) (p : Option Place) (c q : Nat) (k : PointId) : (y.post e kind f p c q).point? k = y.point? k := rfl
@[simp] theorem Yard.station_post (e : Env) (kind : NoticeKind) (f : Nat) (p : Option Place) (c q : Nat) (k : Nat) : (y.post e kind f p c q).station? k = y.station? k := rfl
@[simp] theorem Yard.departure_post (e : Env) (kind : NoticeKind) (f : Nat) (p : Option Place) (c q : Nat) (k : Nat) : (y.post e kind f p c q).departure? k = y.departure? k := rfl
@[simp] theorem Yard.turn_post (e : Env) (kind : NoticeKind) (f : Nat) (p : Option Place) (c q : Nat) (k : Nat) : (y.post e kind f p c q).turn? k = y.turn? k := rfl
@[simp] theorem Yard.reservation_post (e : Env) (kind : NoticeKind) (f : Nat) (p : Option Place) (c q : Nat) (k : Nat) : (y.post e kind f p c q).reservation? k = y.reservation? k := rfl
@[simp] theorem Yard.unsent_post (e : Env) (kind : NoticeKind) (f : Nat) (p : Option Place) (c q : Nat) (k : Place) : (y.post e kind f p c q).unsent? k = y.unsent? k := rfl

@[simp] theorem Yard.bus_queueCommand (o : Place) (a : Nat) (r : Order) (k : Nat) : (y.queueCommand o a r).bus? k = y.bus? k := rfl
@[simp] theorem Yard.lane_queueCommand (o : Place) (a : Nat) (r : Order) (k : Nat) : (y.queueCommand o a r).lane? k = y.lane? k := rfl
@[simp] theorem Yard.point_queueCommand (o : Place) (a : Nat) (r : Order) (k : PointId) : (y.queueCommand o a r).point? k = y.point? k := rfl
@[simp] theorem Yard.station_queueCommand (o : Place) (a : Nat) (r : Order) (k : Nat) : (y.queueCommand o a r).station? k = y.station? k := rfl
@[simp] theorem Yard.departure_queueCommand (o : Place) (a : Nat) (r : Order) (k : Nat) : (y.queueCommand o a r).departure? k = y.departure? k := rfl
@[simp] theorem Yard.turn_queueCommand (o : Place) (a : Nat) (r : Order) (k : Nat) : (y.queueCommand o a r).turn? k = y.turn? k := rfl
@[simp] theorem Yard.reservation_queueCommand (o : Place) (a : Nat) (r : Order) (k : Nat) : (y.queueCommand o a r).reservation? k = y.reservation? k := rfl

@[simp] theorem Yard.bus_leaveWaits (f : Nat) (k : Nat) : (y.leaveWaits f).bus? k = y.bus? k := rfl
@[simp] theorem Yard.lane_leaveWaits (f : Nat) (k : Nat) : (y.leaveWaits f).lane? k = y.lane? k := rfl
@[simp] theorem Yard.point_leaveWaits (f : Nat) (k : PointId) : (y.leaveWaits f).point? k = y.point? k := rfl
@[simp] theorem Yard.station_leaveWaits (f : Nat) (k : Nat) : (y.leaveWaits f).station? k = y.station? k := rfl
@[simp] theorem Yard.departure_leaveWaits (f : Nat) (k : Nat) : (y.leaveWaits f).departure? k = y.departure? k := rfl
@[simp] theorem Yard.turn_leaveWaits (f : Nat) (k : Nat) : (y.leaveWaits f).turn? k = y.turn? k := rfl
@[simp] theorem Yard.reservation_leaveWaits (f : Nat) (k : Nat) : (y.leaveWaits f).reservation? k = y.reservation? k := rfl
@[simp] theorem Yard.unsent_leaveWaits (f : Nat) (k : Place) : (y.leaveWaits f).unsent? k = y.unsent? k := rfl

@[simp] theorem Yard.bus_raise (k : Nat) : (y.raise).bus? k = y.bus? k := rfl
@[simp] theorem Yard.lane_raise (k : Nat) : (y.raise).lane? k = y.lane? k := rfl
@[simp] theorem Yard.station_raise (k : Nat) : (y.raise).station? k = y.station? k := rfl
@[simp] theorem Yard.departure_raise (k : Nat) : (y.raise).departure? k = y.departure? k := rfl
@[simp] theorem Yard.turn_raise (k : Nat) : (y.raise).turn? k = y.turn? k := rfl
@[simp] theorem Yard.reservation_raise (k : Nat) : (y.raise).reservation? k = y.reservation? k := rfl
@[simp] theorem Yard.unsent_raise (k : Place) : (y.raise).unsent? k = y.unsent? k := rfl

@[simp] theorem Yard.bus_setTurn (f : Nat) (g : PoolEntry → PoolEntry) (k : Nat) : (y.setTurn f g).bus? k = y.bus? k := rfl
@[simp] theorem Yard.lane_setTurn (f : Nat) (g : PoolEntry → PoolEntry) (k : Nat) : (y.setTurn f g).lane? k = y.lane? k := rfl
@[simp] theorem Yard.point_setTurn (f : Nat) (g : PoolEntry → PoolEntry) (k : PointId) : (y.setTurn f g).point? k = y.point? k := rfl
@[simp] theorem Yard.station_setTurn (f : Nat) (g : PoolEntry → PoolEntry) (k : Nat) : (y.setTurn f g).station? k = y.station? k := rfl
@[simp] theorem Yard.departure_setTurn (f : Nat) (g : PoolEntry → PoolEntry) (k : Nat) : (y.setTurn f g).departure? k = y.departure? k := rfl
@[simp] theorem Yard.reservation_setTurn (f : Nat) (g : PoolEntry → PoolEntry) (k : Nat) : (y.setTurn f g).reservation? k = y.reservation? k := rfl
@[simp] theorem Yard.unsent_setTurn (f : Nat) (g : PoolEntry → PoolEntry) (k : Place) : (y.setTurn f g).unsent? k = y.unsent? k := rfl

@[simp] theorem Yard.bus_freeTurn (f : Nat) (k : Nat) : (y.freeTurn f).bus? k = y.bus? k := rfl
@[simp] theorem Yard.lane_freeTurn (f : Nat) (k : Nat) : (y.freeTurn f).lane? k = y.lane? k := rfl
@[simp] theorem Yard.point_freeTurn (f : Nat) (k : PointId) : (y.freeTurn f).point? k = y.point? k := rfl
@[simp] theorem Yard.station_freeTurn (f : Nat) (k : Nat) : (y.freeTurn f).station? k = y.station? k := rfl
@[simp] theorem Yard.departure_freeTurn (f : Nat) (k : Nat) : (y.freeTurn f).departure? k = y.departure? k := rfl
@[simp] theorem Yard.reservation_freeTurn (f : Nat) (k : Nat) : (y.freeTurn f).reservation? k = y.reservation? k := rfl
@[simp] theorem Yard.unsent_freeTurn (f : Nat) (k : Place) : (y.freeTurn f).unsent? k = y.unsent? k := rfl

/-! ### Updates of the records looked up -/

theorem Yard.bus_setBus (f : Nat) (g : Bus → Bus) (hg : ∀ b, (g b).fleet = b.fleet) (k : Nat) :
    (y.setBus f g).bus? k = if k = f then (y.bus? k).map g else y.bus? k := find?_update Bus.fleet f g hg k y.fleet

@[simp] theorem Yard.bus_setWait (f : Nat) (w : PlanWait) (k : Nat) :
    (y.setWait f w).bus? k = if k = f then (y.bus? k).map (fun b => { b with wait := w }) else y.bus? k :=
  y.bus_setBus f (fun b => { b with wait := w }) (fun _ => rfl) k

theorem Yard.lane_setLane (n : Nat) (g : Lane → Lane) (hg : ∀ l, (g l).number = l.number) (k : Nat) :
    (y.setLane n g).lane? k = if k = n then (y.lane? k).map g else y.lane? k := find?_update Lane.number n g hg k y.lanes

theorem Yard.point_setPoint (i : PointId) (g : Point → Point) (hg : ∀ q, (g q).id = q.id) (k : PointId) :
    (y.setPoint i g).point? k = if k = i then (y.point? k).map g else y.point? k := find?_update Point.id i g hg k y.points

theorem Yard.station_setStation (a : Nat) (g : Station → Station) (hg : ∀ t, (g t).address = t.address) (k : Nat) :
    (y.setStation a g).station? k = if k = a then (y.station? k).map g else y.station? k :=
  find?_update Station.address a g hg k y.stations

theorem Yard.departure_setDeparture (f : Nat) (g : Departure → Departure) (hg : ∀ d, (g d).bus = d.bus) (k : Nat) :
    (y.setDeparture f g).departure? k = if k = f then (y.departure? k).map g else y.departure? k :=
  find?_update Departure.bus f g hg k y.departures

/-- A selection event changes the selection flag of FREE points alone. -/
theorem Yard.point_raise (k : PointId) :
    y.raise.point? k = (y.point? k).map (fun q => if q.state = .free then { q with selection := true } else q) := by
  unfold Yard.point? Yard.raise
  rw [List.find?_map]
  congr 1
  congr 1
  funext q
  simp only [Function.comp_apply]
  split <;> rfl

theorem Yard.turn_setTurn (f : Nat) (g : PoolEntry → PoolEntry) (hg : ∀ t, (g t).bus = t.bus) (k : Nat) :
    (y.setTurn f g).turn? k = if k = f then (y.turn? k).map g else y.turn? k := by
  have := find?_update PoolEntry.bus f g hg k y.pool
  simpa [Yard.turn?, Yard.pool] using this

theorem Yard.turn_freeTurn (f k : Nat) : (y.freeTurn f).turn? k = if k = f then none else y.turn? k := by
  have hp : (y.freeTurn f).pool = y.pool.filter (fun t => t.bus != f) := by
    simp [Yard.pool]
  unfold Yard.turn?
  rw [hp, List.find?_filter]
  split
  · rename_i h; subst h
    refine List.find?_eq_none.2 ?_
    intro t _; simp
  · rename_i h
    congr 1
    funext t
    by_cases hk : t.bus = k
    · simp [hk, h]
    · simp [hk]

/-- The record found carries the number looked up. -/
theorem Yard.bus_fleet {f : Nat} {b : Bus} {y : Yard} (h : y.bus? f = some b) : b.fleet = f := by
  simpa using List.find?_some h

theorem Yard.lane_number {n : Nat} {l : Lane} {y : Yard} (h : y.lane? n = some l) : l.number = n := by
  simpa using List.find?_some h

theorem Yard.point_id {i : PointId} {q : Point} {y : Yard} (h : y.point? i = some q) : q.id = i := by
  simpa using List.find?_some h

theorem Yard.departure_bus {f : Nat} {d : Departure} {y : Yard} (h : y.departure? f = some d) : d.bus = f := by
  simpa using List.find?_some h

theorem Yard.turn_bus {f : Nat} {t : PoolEntry} {y : Yard} (h : y.turn? f = some t) : t.bus = f := by
  simpa using List.find?_some h

end Sys2Proof.Machine
end

