-- ==== Sys2Proof/Laws/Frames.lean ====
section
/-!
SUPPORT. What a re-run of the berth wait list and a change of a departure key leave alone (R97, R101, R103): everything but plan
waits, the lanes, the berth wait list, the command queue and the notices they post.
-/
namespace Sys2Proof.Machine

/-- From `y` to `z` only berths were granted and lanes recomputed: of a bus record only the plan wait may differ, and only notices
of these kinds were posted. -/
structure Yard.Berths (kinds : List NoticeKind) (y z : Yard) : Prop where
  supTimer : z.supTimer = y.supTimer
  fuelPriority : z.fuelPriority = y.fuelPriority
  fuelOrdinary : z.fuelOrdinary = y.fuelOrdinary
  washQueue : z.washQueue = y.washQueue
  points : z.points = y.points
  frost : z.frost = y.frost
  departures : z.departures = y.departures
  pullout : z.pullout = y.pullout
  pacing : z.pacing = y.pacing
  stations : z.stations = y.stations
  inFlight : z.inFlight = y.inFlight
  fleet : z.fleet.map (fun b => { b with wait := .noPlan }) = y.fleet.map (fun b => { b with wait := .noPlan })
  silent : ∀ k, k ∉ kinds → z.notices.tallies.getD (k.num - 1) 0 = y.notices.tallies.getD (k.num - 1) 0

theorem Yard.Berths.refl (kinds : List NoticeKind) (y : Yard) : y.Berths kinds y :=
  ⟨rfl, rfl, rfl, rfl, rfl, rfl, rfl, rfl, rfl, rfl, rfl, rfl, fun _ _ => rfl⟩

theorem Yard.Berths.trans {kinds : List NoticeKind} {x y z : Yard} (h : x.Berths kinds y) (k : y.Berths kinds z) :
    x.Berths kinds z :=
  ⟨k.1.trans h.1, k.2.trans h.2, k.3.trans h.3, k.4.trans h.4, k.5.trans h.5, k.6.trans h.6, k.7.trans h.7, k.8.trans h.8,
    k.9.trans h.9, k.10.trans h.10, k.11.trans h.11, k.12.trans h.12,
    fun n hn => (k.13 n hn).trans (h.13 n hn)⟩

/-- Different kinds have different numbers. -/
theorem NoticeKind.num_inj {a b : NoticeKind} (h : a.num - 1 = b.num - 1) : a = b := by
  cases a <;> cases b <;> first | rfl | (exact absurd h (by decide))

/-- A posting raises the tally of its kind alone. -/
theorem Notices.tallies_post (c : Nat) (kind : NoticeKind) (f : Nat) (p : Option Place) (n q : Nat) (u : Notices) :
    (u.post c kind f p n q).tallies =
      u.tallies.set (kind.num - 1) (satAdd 65535 (u.tallies.getD (kind.num - 1) 0) 1) := by
  unfold Notices.post
  simp only []
  split
  · split <;> rfl
  · rfl

theorem Notices.tally_post_other {c : Nat} {kind k : NoticeKind} (hk : k ≠ kind) (f : Nat) (p : Option Place) (n q : Nat)
    (u : Notices) : (u.post c kind f p n q).tallies.getD (k.num - 1) 0 = u.tallies.getD (k.num - 1) 0 := by
  rw [Notices.tallies_post]
  have : kind.num - 1 ≠ k.num - 1 := fun h => hk (NoticeKind.num_inj h).symm
  simp [List.getD_eq_getElem?_getD, List.getElem?_set_ne this]

theorem Yard.Berths.post {kinds : List NoticeKind} (e : Env) {kind : NoticeKind} (hk : kind ∈ kinds) (f : Nat)
    (p : Option Place) (c q : Nat) (y : Yard) : y.Berths kinds (y.post e kind f p c q) :=
  ⟨rfl, rfl, rfl, rfl, rfl, rfl, rfl, rfl, rfl, rfl, rfl, rfl,
    fun k hn => Notices.tally_post_other (k := k) (fun h => hn (by rw [h]; exact hk)) f p c q _⟩

theorem Yard.Berths.setLane (kinds : List NoticeKind) (n : Nat) (g : Lane → Lane) (y : Yard) :
    y.Berths kinds (y.setLane n g) :=
  ⟨rfl, rfl, rfl, rfl, rfl, rfl, rfl, rfl, rfl, rfl, rfl, rfl, fun _ _ => rfl⟩

theorem Yard.Berths.queueCommand (kinds : List NoticeKind) (o : Place) (a : Nat) (r : Order) (y : Yard) :
    y.Berths kinds (y.queueCommand o a r) :=
  ⟨rfl, rfl, rfl, rfl, rfl, rfl, rfl, rfl, rfl, rfl, rfl, rfl, fun _ _ => rfl⟩

theorem Yard.Berths.setWait (kinds : List NoticeKind) (f : Nat) (w : PlanWait) (y : Yard) :
    y.Berths kinds (y.setWait f w) := by
  refine ⟨rfl, rfl, rfl, rfl, rfl, rfl, rfl, rfl, rfl, rfl, rfl, ?_, fun _ _ => rfl⟩
  simp only [Yard.setWait, Yard.setBus, List.map_map]
  apply List.map_congr_left
  intro b _
  simp only [Function.comp_apply]
  split <;> rfl

theorem Yard.Berths.wantSign (kinds : List NoticeKind) (n : Nat) (y : Yard) : y.Berths kinds (y.wantSign n) := by
  unfold Yard.wantSign
  split
  · exact .refl _ _
  · split
    · exact ⟨rfl, rfl, rfl, rfl, rfl, rfl, rfl, rfl, rfl, rfl, rfl, rfl, fun _ _ => rfl⟩
    · exact .setLane _ _ _ _
    · exact .queueCommand _ _ _ _ _

theorem Yard.Berths.updateSign (kinds : List NoticeKind) (n : Nat) (y : Yard) : y.Berths kinds (y.updateSign n) := by
  unfold Yard.updateSign
  split
  · exact .refl _ _
  · split
    · exact .refl _ _
    · exact (Yard.Berths.setLane _ _ _ _).trans (.wantSign _ _ _)

theorem Yard.Berths.reserve {kinds : List NoticeKind} (hk : .berthAssigned ∈ kinds) (e : Env) (b : Bus) (n : Nat)
    (kind : ReservationKind) (w : PlanWait) (lapses code quantity : Nat) (y : Yard) :
    y.Berths kinds (y.reserve e b n kind w lapses code quantity) := by
  unfold Yard.reserve
  exact (((Yard.Berths.setLane _ _ _ _).trans (.setWait _ _ _ _)).trans (.updateSign _ _ _)).trans (.post e hk _ _ _ _ _)

theorem Yard.Berths.retryWait {kinds : List NoticeKind} (hk : .berthAssigned ∈ kinds) (e : Env) (w : BerthWait) (y : Yard) :
    y.Berths kinds (y.retryWait e w) := by
  unfold Yard.retryWait
  split
  · exact .refl _ _
  · split
    · refine Yard.Berths.trans ?_ (.reserve hk e _ _ _ _ _ _ _ _)
      exact ⟨rfl, rfl, rfl, rfl, rfl, rfl, rfl, rfl, rfl, rfl, rfl, rfl, fun _ _ => rfl⟩
    · exact .refl _ _

/-- A re-run of the berth wait list grants berths, and does nothing else (R103). -/
theorem Yard.Berths.rerunWaits {kinds : List NoticeKind} (hk : .berthAssigned ∈ kinds) (e : Env) (y : Yard) :
    y.Berths kinds (y.rerunWaits e) := by
  unfold Yard.rerunWaits
  generalize y.waits = l
  induction l generalizing y with
  | nil => exact .refl _ _
  | cons w l ih => exact (Yard.Berths.retryWait hk e w y).trans (ih _)

theorem Yard.Berths.recountInversions {kinds : List NoticeKind} (hk : .laneDisorder ∈ kinds) (e : Env) (n : Nat) (y : Yard) :
    y.Berths kinds (y.recountInversions e n) := by
  unfold Yard.recountInversions
  split
  · exact .refl _ _
  · simp only []
    split
    · exact (Yard.Berths.setLane _ _ _ _).trans (.post e hk _ _ _ _ _)
    · exact .setLane _ _ _ _

/-- A change of a departure key recounts inversions and grants berths, and does nothing else (R97, R123). -/
theorem Yard.Berths.keyChanged {kinds : List NoticeKind} (h1 : .berthAssigned ∈ kinds) (h2 : .laneDisorder ∈ kinds) (e : Env)
    (f : Nat) (y : Yard) : y.Berths kinds (y.keyChanged e f) := by
  unfold Yard.keyChanged
  simp only []
  refine Yard.Berths.trans ?_ (.rerunWaits h1 e _)
  split
  · exact .recountInversions h2 e _ _
  · exact .refl _ _

/-- Fleet numbers are kept. -/
theorem Yard.Berths.numbers {kinds : List NoticeKind} {y z : Yard} (h : y.Berths kinds z) :
    z.fleet.map Bus.fleet = y.fleet.map Bus.fleet := by
  have := congrArg (List.map Bus.fleet) h.fleet
  simpa [List.map_map, Function.comp_def] using this

/-- A bus record is found as before but for its plan wait. -/
theorem Yard.Berths.bus {kinds : List NoticeKind} {y z : Yard} (h : y.Berths kinds z) (f : Nat) :
    (z.bus? f).map (fun b => { b with wait := .noPlan }) = (y.bus? f).map (fun b => { b with wait := .noPlan }) := by
  have key : ∀ l : List Bus, (l.find? (fun b => b.fleet == f)).map (fun b => { b with wait := .noPlan }) =
      (l.map (fun b => { b with wait := .noPlan })).find? (fun b => b.fleet == f) := by
    intro l; rw [List.find?_map]; rfl
  simp only [Yard.bus?, key, h.fleet]

/-! ### Plan waits -/

/-- From `y` to `z` every bus keeps its plan wait, but for those that went from BERTH to ENTRY. -/
def Yard.BerthsGranted (y z : Yard) : Prop :=
  ∀ f b, y.bus? f = some b → ∃ c, z.bus? f = some c ∧ (c.wait = b.wait ∨ b.wait = .berth ∧ c.wait = .entry)

namespace Yard.BerthsGranted

theorem same {y z : Yard} (h : z.fleet = y.fleet) : y.BerthsGranted z :=
  fun f b hb => ⟨b, by rw [← hb]; simp only [Yard.bus?, h], .inl rfl⟩

theorem trans {x y z : Yard} (h : x.BerthsGranted y) (k : y.BerthsGranted z) : x.BerthsGranted z := by
  intro f b hb
  obtain ⟨c, hc, h1⟩ := h f b hb
  obtain ⟨d, hd, h2⟩ := k f c hc
  refine ⟨d, hd, ?_⟩
  rcases h1 with h1 | ⟨h1, h1'⟩ <;> rcases h2 with h2 | ⟨h2, h2'⟩
  · exact .inl (h2.trans h1)
  · exact .inr ⟨h1 ▸ h2, h2'⟩
  · exact .inr ⟨h1, h2.trans h1'⟩
  · exact .inr ⟨h1, h2'⟩

theorem foldl {α : Type} {op : Yard → α → Yard} (h : ∀ (y : Yard) a, y.BerthsGranted (op y a)) :
    ∀ (l : List α) (y : Yard), y.BerthsGranted (l.foldl op y)
  | [], _ => same rfl
  | a :: l, y => (h y a).trans (foldl h l (op y a))

theorem updateSign (n : Nat) (y : Yard) : y.BerthsGranted (y.updateSign n) := by
  unfold Yard.updateSign Yard.wantSign
  repeat' split
  all_goals exact same rfl

/-- The signal "berth granted" (R49). -/
theorem setWait {f : Nat} {b : Bus} {y : Yard} (hb : y.bus? f = some b) :
    y.BerthsGranted (y.setWait f b.wait.berthGranted) := by
  intro g c hc
  have hf := Yard.bus_setBus y f (fun b => { b with wait := c.wait.berthGranted }) (by intro; rfl) g
  by_cases hg : g = f
  · subst hg
    obtain rfl : c = b := by rw [hb] at hc; exact (Option.some.inj hc).symm
    refine ⟨{ c with wait := c.wait.berthGranted }, ?_, ?_⟩
    · simpa [Yard.setWait, hb] using hf
    · unfold PlanWait.berthGranted
      split
      · exact .inr ⟨by assumption, rfl⟩
      · exact .inl rfl
  · refine ⟨c, ?_, .inl rfl⟩
    unfold Yard.setWait
    rw [Yard.bus_setBus _ _ _ (by intro; rfl), if_neg hg]
    exact hc

theorem retryWait (e : Env) (y : Yard) (w : BerthWait) : y.BerthsGranted (y.retryWait e w) := by
  unfold Yard.retryWait
  split
  · exact same rfl
  · rename_i b hb
    split
    · unfold Yard.reserve
      refine Yard.BerthsGranted.trans ?_ (same rfl)
      refine Yard.BerthsGranted.trans ?_ (updateSign _ _)
      refine Yard.BerthsGranted.trans (same rfl) (setWait (b := b) ?_)
      rw [Yard.bus_fleet hb]
      exact hb
    · exact same rfl

/-- A re-run of the berth wait list (R103). -/
theorem rerunWaits (e : Env) (y : Yard) : y.BerthsGranted (y.rerunWaits e) := foldl (retryWait e) _ _

theorem recountInversions (e : Env) (n : Nat) (y : Yard) : y.BerthsGranted (y.recountInversions e n) := by
  unfold Yard.recountInversions
  split
  · exact same rfl
  · simp only []
    split <;> exact same rfl

/-- A change of a departure key (R97, R103). -/
theorem keyChanged (e : Env) (f : Nat) (y : Yard) : y.BerthsGranted (y.keyChanged e f) := by
  unfold Yard.keyChanged
  simp only []
  refine Yard.BerthsGranted.trans ?_ (rerunWaits e _)
  split
  · exact recountInversions e _ _
  · exact same rfl

end Yard.BerthsGranted

end Sys2Proof.Machine
end

