-- ==== Sys2Proof/Laws/Lanes.lean ====
section
/-!
SUPPORT. What the shared operations of a lane can do: a wanted SIGN, a sign update, a release field cleared or claimed, a reservation
dropped. Each changes lanes and the command queue alone (a cleared release also raises selection), of one lane alone, and takes
no command of another owner out of the queue. Then keys, corrections of a position, and evictions, each said once.
-/
namespace Sys2Proof.Machine

/-- From `y` to `z` only lane `n` and commands of it changed. -/
structure Yard.LaneOnly (n : Nat) (y z : Yard) : Prop where
  rest : z = { y with lanes := z.lanes, cmdQueue := z.cmdQueue }
  others : ∀ k, k ≠ n → z.lane? k = y.lane? k
  unsent : ∀ o, o ≠ .lane n → z.unsent? o = y.unsent? o
  queue : ∀ c ∈ y.cmdQueue, c.owner ≠ .lane n → c ∈ z.cmdQueue
  numbers : z.lanes.map Lane.number = y.lanes.map Lane.number

theorem Yard.LaneOnly.refl (n : Nat) (y : Yard) : y.LaneOnly n y := ⟨rfl, fun _ _ => rfl, fun _ _ => rfl, fun _ h _ => h, rfl⟩

theorem Yard.LaneOnly.trans {n : Nat} {x y z : Yard} (h : x.LaneOnly n y) (k : y.LaneOnly n z) : x.LaneOnly n z :=
  ⟨by rw [k.rest]; conv_lhs => rw [h.rest],
    fun m hm => (k.others m hm).trans (h.others m hm), fun o ho => (k.unsent o ho).trans (h.unsent o ho),
    fun c hc ho => k.queue c (h.queue c hc ho) ho, k.numbers.trans h.numbers⟩

theorem Yard.LaneOnly.setLane (n : Nat) (g : Lane → Lane) (hg : ∀ l, (g l).number = l.number) (y : Yard) :
    y.LaneOnly n (y.setLane n g) := by
  refine ⟨rfl, fun k hk => by rw [Yard.lane_setLane _ _ _ hg]; simp [hk], fun _ _ => rfl, fun _ h _ => h, ?_⟩
  simp only [Yard.setLane_lanes, List.map_map]
  apply List.map_congr_left
  intro l _
  simp only [Function.comp_apply]
  split
  · exact hg l
  · rfl

theorem Yard.LaneOnly.queueCommand (n a : Nat) (r : Order) (y : Yard) : y.LaneOnly n (y.queueCommand (.lane n) a r) := by
  refine ⟨rfl, fun _ _ => rfl, ?_, fun c h _ => List.mem_append_left _ h, rfl⟩
  intro o ho
  simp only [Yard.unsent?, Yard.queueCommand, List.find?_append]
  cases y.cmdQueue.find? (fun c => c.owner == o) with
  | some c => rfl
  | none =>
    have : ((Place.lane n == o) : Bool) = false := by simpa using fun h => ho h.symm
    simp [List.find?, this]

theorem Yard.LaneOnly.wantSign (n : Nat) (y : Yard) : y.LaneOnly n (y.wantSign n) := by
  unfold Yard.wantSign
  split
  · exact .refl _ _
  · split
    · refine ⟨rfl, fun _ _ => rfl, ?_, ?_, rfl⟩
      · intro o ho
        simp only [Yard.unsent?]
        generalize y.cmdQueue = q
        induction q with
        | nil => rfl
        | cons c q ih =>
          by_cases h : c.owner = .lane n
          · have hco : (c.owner == o) = false := by rw [h]; simpa using fun h => ho h.symm
            have hno : ((Place.lane n == o) : Bool) = false := by simpa using fun h => ho h.symm
            rw [List.map_cons, List.find?_cons, List.find?_cons]
            simpa [h, hco, hno] using ih
          · rw [List.map_cons, List.find?_cons, List.find?_cons, if_neg h, ih]
      · intro c hc ho
        exact List.mem_map.2 ⟨c, hc, if_neg ho⟩
    · exact .setLane n _ (by intro l; rfl) y
    · exact .queueCommand _ _ _ _

theorem Yard.LaneOnly.updateSign (n : Nat) (y : Yard) : y.LaneOnly n (y.updateSign n) := by
  unfold Yard.updateSign
  split
  · exact .refl _ _
  · split
    · exact .refl _ _
    · exact (Yard.LaneOnly.setLane n _ (by intro l; rfl) y).trans (.wantSign _ _)

theorem Yard.LaneOnly.writeClaim (n f : Nat) (r : ReleaseReason) (y : Yard) : y.LaneOnly n (y.writeClaim n f r) :=
  (Yard.LaneOnly.setLane n _ (by intro l; rfl) y).trans (.updateSign _ _)

theorem Yard.LaneOnly.dropReservation (n f : Nat) (y : Yard) : y.LaneOnly n (y.dropReservation n f) :=
  (Yard.LaneOnly.setLane n _ (by intro l; rfl) y).trans (.updateSign _ _)

/-- A wanted SIGN may set the sign pending flag of its lane, and nothing else in it. -/
theorem Yard.wantSign_lane {n : Nat} {l : Lane} {y : Yard} (h : y.lane? n = some l) :
    ∃ pending, (y.wantSign n).lane? n = some { l with signPending := pending } := by
  unfold Yard.wantSign
  rw [h]
  simp only []
  split
  · exact ⟨l.signPending, h⟩
  · exact ⟨true, by rw [Yard.lane_setLane _ _ _ (by intro; rfl), if_pos rfl, h]; rfl⟩
  · exact ⟨l.signPending, h⟩

/-- A sign update gives its lane the content it should have. -/
theorem Yard.updateSign_lane {n : Nat} {l : Lane} {y : Yard} (h : y.lane? n = some l) :
    ∃ pending, (y.updateSign n).lane? n = some { l with sign := l.content, signPending := pending } := by
  unfold Yard.updateSign
  rw [h]
  simp only []
  split
  · rename_i hs
    exact ⟨l.signPending, by rw [h, hs]⟩
  · exact Yard.wantSign_lane (l := { l with sign := l.content })
      (by rw [Yard.lane_setLane y n (fun l => { l with sign := l.content }) (by intro; rfl), if_pos rfl, h]; rfl)

/-- A release field cleared: its lane's sign follows. -/
theorem Yard.clearRelease_lane {n : Nat} {l : Lane} {y : Yard} (h : y.lane? n = some l) :
    ∃ pending, (y.clearRelease n).lane? n =
      some { l with release := none, sign := ({ l with release := none } : Lane).content, signPending := pending } :=
  Yard.updateSign_lane (l := { l with release := none })
    (by rw [Yard.lane_setLane y n (fun l => { l with release := none }) (by intro; rfl), if_pos rfl, h]; rfl)

/-- A release field cleared: what stands apart from its lane, the queue and the selection flags. -/
theorem Yard.clearRelease_rest (n : Nat) (y : Yard) : ∃ z, y.LaneOnly n z ∧ y.clearRelease n = z.raise :=
  ⟨(y.setLane n (fun l => { l with release := none })).updateSign n,
    (Yard.LaneOnly.setLane n _ (by intro l; rfl) y).trans (.updateSign _ _), rfl⟩

/-! ### Keys and inversions -/

/-- The departure key (R122): the slot minute, 1440 without an entry. -/
theorem Yard.key_eq (y : Yard) : y.key = fun g => ((y.departure? g).map Departure.slot).getD 1440 := by
  funext g
  unfold Yard.key
  cases y.departure? g <;> rfl

/-- Inversions are the neighbours of which the later has the smaller key (R97). -/
theorem countInversions_eq (key : Nat → Nat) : ∀ l : List Nat,
    countInversions key l = ((l.zip (l.drop 1)).filter (fun p => decide (key p.2 < key p.1))).length
  | [] => rfl
  | [_] => rfl
  | a :: b :: rest => by
    have ih := countInversions_eq key (b :: rest)
    simp only [countInversions, ih, List.drop_succ_cons, List.drop_zero, List.zip_cons_cons, List.filter_cons]
    by_cases h : key b < key a
    · simp [h]
      omega
    · simp [h]

/-! ### Positions, exits and shunts -/

/-- When a position report is a correction (Table 2-4). -/
theorem corrects_iff (old new : Position) : corrects old new = true ↔
    old ≠ new ∧ old ≠ .loose ∧ (old = .outside → new ≠ .loose) := by
  rcases old with _ | _ | n | p <;> rcases new with _ | _ | m | r <;> simp [corrects]

/-- A position set: a bus in TURN that takes the position LOOSE raises a selection event (R60). -/
theorem Yard.place_eq {f : Nat} {b : Bus} {y : Yard} (hb : y.bus? f = some b) (pos : Position) : y.place f pos =
    let set := y.setBus f (fun b => { b with position := pos })
    if pos = .loose ∧ b.position ≠ .loose ∧ b.wait = .turn then set.raise else set := by
  simp only [Yard.place, hb]

/-- "Shunt ended" (R51). -/
theorem Yard.shuntEnded_eq {f : Nat} {b : Bus} {y : Yard} (hb : y.bus? f = some b) : y.shuntEnded f =
    if b.wait = .entry then y.setBus f (fun c => { c with wait := c.shuntMarker.getD c.wait, shuntMarker := none }) else y := by
  simp only [Yard.shuntEnded, hb]

/-- The target of a shunt is the lane of the SHUNT reservation. -/
theorem Yard.shuntTarget_some {f m : Nat} {y : Yard} :
    y.shuntTarget? f = some m ↔ ∃ r, y.reservation? f = some (m, r) ∧ r.kind = .shunt := by
  unfold Yard.shuntTarget?
  rcases y.reservation? f with _ | ⟨k, r⟩
  · simp
  · by_cases h : r.kind = .shunt <;> simp [h]

/-- A bus without a SHUNT reservation is in no shunt. -/
theorem Yard.shuntTarget_none {f : Nat} {y : Yard} :
    y.shuntTarget? f = none ↔ ∀ m r, y.reservation? f = some (m, r) → r.kind = .park := by
  unfold Yard.shuntTarget?
  rcases y.reservation? f with _ | ⟨k, r⟩
  · simp
  · cases h : r.kind <;> simp [h]

/-- A shunt cancelled (R118): its reservation dropped, or dropped before by the same event; with neither there is none to cancel. -/
theorem Yard.cancelShunt_eq (e : Env) (f code : Nat) (was : Option Nat) (y : Yard) : y.cancelShunt e f code was =
    match y.shuntTarget? f, was with
    | some n, _ => (y.dropReservation n f).shuntCancelled e f code n
    | none, some n => y.shuntCancelled e f code n
    | none, none => y := by
  unfold Yard.cancelShunt
  cases y.shuntTarget? f <;> cases was <;> rfl

/-- An entry at the mouth of a BLIND lane, at the far end of a THROUGH lane (R104 step 4). -/
theorem Lane.insert_eq (f : Nat) (l : Lane) : l.insert f =
    { l with occupants := if l.kind = .through then l.occupants ++ [f] else f :: l.occupants } := by
  unfold Lane.insert
  cases l.kind <;> rfl

/-- A release that names a bus which no longer stands at the exit end (R107). -/
theorem Lane.boxedIn_eq (l : Lane) : l.boxedIn = (l.release.map Prod.fst).any (fun g => l.occupants.head? != some g) := by
  unfold Lane.boxedIn
  rcases l.release with _ | ⟨g, r⟩ <;> rfl

/-- The last reservation evicted when the lane is over its capacity (R105), by its kind. -/
theorem Yard.evict_last {e : Env} {n k : Nat} {l : Lane} {r : Reservation} {y : Yard} {v : Evictions} (h : y.lane? n = some l)
    (hr : l.reservations.getLast? = some r) (hc : l.capacity < y.occupied l + l.reserved) :
    Yard.evict e n (k + 1) (y, v) =
      match r.kind with
      | .park =>
        Yard.evict e n k ((y.setLane n (Lane.unreserve r.bus)).post e .entryLapsed r.bus (some (.lane n)) 4 0,
          { count := v.count + 1, reruns := v.reruns ++ [(r.bus, r.lapses)] })
      | .shunt => Yard.evict e n k (y.cancelShunt e r.bus 4 none, { count := v.count + 1, reruns := v.reruns }) := by
  conv_lhs => unfold Yard.evict
  rw [h]
  simp only [hr]
  exact (if_neg (by omega)).trans (by cases r.kind <;> rfl)

end Sys2Proof.Machine
end

