-- ==== Sys2Proof/Laws/Layouts.lean ====
section
/-!
SUPPORT. A definition written under its key (R3, R4, R5): what stands in the list afterwards, and that a list rising by key stays so.
-/
namespace Sys2Proof.Machine

theorem mem_upsert {α : Type} {key : α → Nat} {x y : α} : ∀ {l : List α}, y ∈ upsert key x l → y = x ∨ y ∈ l
  | [], h => Or.inl (by simpa [upsert] using h)
  | z :: rest, h => by
    unfold upsert at h
    split at h
    · simpa using h
    · split at h
      · rcases List.mem_cons.1 h with h | h
        · exact Or.inl h
        · exact Or.inr (List.mem_cons_of_mem _ h)
      · rcases List.mem_cons.1 h with h | h
        · exact Or.inr (h ▸ List.mem_cons_self)
        · rcases mem_upsert h with h | h
          · exact Or.inl h
          · exact Or.inr (List.mem_cons_of_mem _ h)

/-- A list rising by key stays so. -/
theorem upsert_rising {α : Type} {key : α → Nat} {x : α} : ∀ {l : List α}, (l.map key).Pairwise (· < ·) →
    ((upsert key x l).map key).Pairwise (· < ·)
  | [], _ => by simp [upsert]
  | z :: rest, h => by
    have h' := List.pairwise_cons.1 h
    unfold upsert
    split
    · rename_i hx
      refine List.pairwise_cons.2 ⟨fun n hn => ?_, h⟩
      rcases List.mem_cons.1 hn with rfl | hn
      · exact hx
      · exact lt_trans hx (h'.1 n hn)
    · split
      · rename_i hx
        rw [List.map_cons, hx]
        exact h
      · refine List.pairwise_cons.2 ⟨fun n hn => ?_, upsert_rising h'.2⟩
        obtain ⟨y, hy, rfl⟩ := List.mem_map.1 hn
        rcases mem_upsert hy with rfl | hy
        · omega
        · exact h'.1 _ (List.mem_map_of_mem hy)

/-- The keys of the part's points order them as the part does. -/
theorem PointId.before_iff {p q : PointId} (hp : p.wellFormed = true) (hq : q.wellFormed = true) :
    PointId.Before p q ↔ pointKey p < pointKey q := by
  rcases p with m | m <;> rcases q with n | n <;> simp [PointId.Before, pointKey, PointId.wellFormed] at * <;> omega

/-- Lane numbers in order, one of the part written among them. -/
theorem LanesRising.upsert {d : LaneDef} {l : List LaneDef} (hd : 1 ≤ d.number ∧ d.number ≤ 24)
    (h : LanesRising (l.map LaneDef.number)) : LanesRising ((upsert LaneDef.number d l).map LaneDef.number) := by
  refine ⟨upsert_rising h.1, fun n hn => ?_⟩
  obtain ⟨y, hy, rfl⟩ := List.mem_map.1 hn
  rcases mem_upsert hy with rfl | hy
  · exact hd
  · exact h.2 _ (List.mem_map_of_mem hy)

/-- Points in order, one of the part written among them. -/
theorem PointsRising.upsert {d : PointDef} {l : List PointDef} (hd : d.id.wellFormed = true)
    (h : PointsRising (l.map PointDef.id)) : PointsRising ((upsert (fun d => pointKey d.id) d l).map PointDef.id) := by
  have known : ∀ y ∈ Machine.upsert (fun d : PointDef => pointKey d.id) d l, y.id.wellFormed = true := by
    intro y hy
    rcases mem_upsert hy with rfl | hy
    · exact hd
    · exact h.2 _ (List.mem_map_of_mem hy)
  refine ⟨?_, fun p hp => ?_⟩
  · rw [List.pairwise_map]
    have rising : (l.map (fun d => pointKey d.id)).Pairwise (· < ·) := by
      rw [List.pairwise_map]
      refine (List.pairwise_map.1 h.1).imp_of_mem ?_
      intro a b ha hb hab
      exact (PointId.before_iff (h.2 _ (List.mem_map_of_mem ha)) (h.2 _ (List.mem_map_of_mem hb))).1 hab
    refine (List.pairwise_map.1 (upsert_rising (x := d) rising)).imp_of_mem ?_
    intro a b ha hb hab
    exact (PointId.before_iff (known a ha) (known b hb)).2 hab
  · obtain ⟨y, hy, rfl⟩ := List.mem_map.1 hp
    exact known y hy

/-- Definitions taken out leave the others in order. -/
theorem LanesRising.filter {l : List LaneDef} (keep : LaneDef → Bool) (h : LanesRising (l.map LaneDef.number)) :
    LanesRising ((l.filter keep).map LaneDef.number) :=
  ⟨h.1.sublist (List.filter_sublist.map _), fun n hn => h.2 n ((List.filter_sublist.map LaneDef.number).subset hn)⟩

theorem PointsRising.filter {l : List PointDef} (keep : PointDef → Bool) (h : PointsRising (l.map PointDef.id)) :
    PointsRising ((l.filter keep).map PointDef.id) :=
  ⟨h.1.sublist (List.filter_sublist.map _), fun n hn => h.2 n ((List.filter_sublist.map PointDef.id).subset hn)⟩

end Sys2Proof.Machine
end

