-- ==== Sys2Proof/Laws/Line.lean ====
section
/-!
SUPPORT. The yard line's operations, one lemma per field, and what all of them keep: YLDE is low on a free line (R143). What the
reading of an answer window finds in a whole frame with a good check, in one with a bad check or too short, and in a character with a
framing error (R144, R181).
-/
namespace Sys2Proof.Machine

variable (l : Line)

@[simp] theorem Line.exchange_holder (h : LineHolder) (b : List Byte) : (l.exchange h b).holder = some h := rfl
@[simp] theorem Line.exchange_phase (h : LineHolder) (b : List Byte) : (l.exchange h b).phase = .window := rfl
@[simp] theorem Line.exchange_ylde (h : LineHolder) (b : List Byte) : (l.exchange h b).ylde = true := rfl
@[simp] theorem Line.exchange_frame (h : LineHolder) (b : List Byte) : (l.exchange h b).frame = lineFrame b := rfl
@[simp] theorem Line.exchange_asks (h : LineHolder) (b : List Byte) : (l.exchange h b).asks = l.asks := rfl

@[simp] theorem Line.sendTaken_holder (a : Nat) : (l.sendTaken a).holder = l.holder := rfl
@[simp] theorem Line.sendTaken_phase (a : Nat) : (l.sendTaken a).phase = .idleWait := rfl
@[simp] theorem Line.sendTaken_ylde (a : Nat) : (l.sendTaken a).ylde = true := rfl
@[simp] theorem Line.sendTaken_frame (a : Nat) : (l.sendTaken a).frame = lineFrame (takenFields a) := rfl
@[simp] theorem Line.sendTaken_asks (a : Nat) : (l.sendTaken a).asks = l.asks := rfl

@[simp] theorem Line.frameEnds_holder : l.frameEnds.holder = l.holder := rfl
@[simp] theorem Line.frameEnds_phase : l.frameEnds.phase = l.phase := rfl
@[simp] theorem Line.frameEnds_ylde : l.frameEnds.ylde = false := rfl
@[simp] theorem Line.frameEnds_frame : l.frameEnds.frame = l.frame := rfl
@[simp] theorem Line.frameEnds_asks : l.frameEnds.asks = l.asks := rfl

@[simp] theorem Line.endWindow_holder : l.endWindow.holder = l.holder := rfl
@[simp] theorem Line.endWindow_phase : l.endWindow.phase = .idleWait := rfl
@[simp] theorem Line.endWindow_ylde : l.endWindow.ylde = false := rfl
@[simp] theorem Line.endWindow_frame : l.endWindow.frame = l.frame := rfl
@[simp] theorem Line.endWindow_asks : l.endWindow.asks = l.asks := rfl

@[simp] theorem Line.freed_holder : l.freed.holder = none := rfl
@[simp] theorem Line.freed_phase : l.freed.phase = .free := rfl
@[simp] theorem Line.freed_ylde : l.freed.ylde = false := rfl
@[simp] theorem Line.freed_frame : l.freed.frame = l.frame := rfl
@[simp] theorem Line.freed_asks : l.freed.asks = l.asks := rfl

@[simp] theorem Line.cut_holder : l.cut.holder = none := rfl
@[simp] theorem Line.cut_phase : l.cut.phase = if l.phase = .free then .free else .idleWait := rfl
@[simp] theorem Line.cut_ylde : l.cut.ylde = false := rfl
@[simp] theorem Line.cut_frame : l.cut.frame = if l.ylde then [] else l.frame := rfl
@[simp] theorem Line.cut_asks : l.cut.asks = [] := rfl

/-- YLDE is low while the line is free (R143). -/
def Line.QuietWhenFree (l : Line) : Prop := l.phase = .free → l.ylde = false

theorem Line.QuietWhenFree.reset : Line.reset.QuietWhenFree := fun _ => rfl
theorem Line.QuietWhenFree.frameEnds : l.frameEnds.QuietWhenFree := fun _ => rfl
theorem Line.QuietWhenFree.exchange (h : LineHolder) (b : List Byte) : (l.exchange h b).QuietWhenFree := nofun
theorem Line.QuietWhenFree.sendTaken (a : Nat) : (l.sendTaken a).QuietWhenFree := nofun
theorem Line.QuietWhenFree.endWindow : l.endWindow.QuietWhenFree := nofun
theorem Line.QuietWhenFree.freed : l.freed.QuietWhenFree := fun _ => rfl
theorem Line.QuietWhenFree.cut : l.cut.QuietWhenFree := fun _ => rfl

/-- A frame that has ended ends no second time. -/
@[simp] theorem Line.frameEnds_of_low {l : Line} (h : l.ylde = false) : l.frameEnds = l := by
  cases l; cases h; rfl

/-! ### Answer windows -/

theorem charBytes_bytes : ∀ b : List Byte, charBytes (b.map RxChar.byte) = some b
  | [] => rfl
  | a :: b => by simp [charBytes, charBytes_bytes b]

theorem charBytes_framingError : ∀ chars : List RxChar, RxChar.framingError ∈ chars → charBytes chars = none
  | .framingError :: _, _ => rfl
  | .byte b :: rest, h => by
    have : RxChar.framingError ∈ rest := by simpa using h
    simp [charBytes, charBytes_framingError rest this]

/-- A whole frame with a good check holds the address and answer its fields spell. -/
theorem readStation_lineFrame {fields : List Byte} (h : 2 ≤ fields.length) :
    readStation ((lineFrame fields).map RxChar.byte) =
      if 1 ≤ byteAt fields 0 ∧ byteAt fields 0 ≤ 63 then
        (readAnswer (byteAt fields 1) (fields.drop 2)).map (fun a => (byteAt fields 0, a))
      else none := by
  have hl : (lineFrame fields).length = fields.length + 2 := by simp [lineFrame, crcBytes, u16]
  have ht : (lineFrame fields).take fields.length = fields := by simp [lineFrame]
  have hd : (lineFrame fields).drop fields.length = crcBytes (crc16 fields) := by simp [lineFrame]
  simp only [readStation, charBytes_bytes, hl, Nat.add_sub_cancel, ht, hd]
  have : 4 ≤ fields.length + 2 := by omega
  simp [this]

/-- An answer in time whose frame is whole and good is VALID exactly when it fits (R144). -/
theorem classify_lineFrame {fields : List Byte} (h : 2 ≤ fields.length) (fits : Nat → Answer → Bool) :
    classify fits (.answer ((lineFrame fields).map RxChar.byte) true) =
      match readAnswer (byteAt fields 1) (fields.drop 2) with
      | some a =>
        if (1 ≤ byteAt fields 0 ∧ byteAt fields 0 ≤ 63) ∧ fits (byteAt fields 0) a = true then .valid (byteAt fields 0) a
        else .garbled
      | none => .garbled := by
  simp only [classify, readStation_lineFrame h]
  by_cases ha : 1 ≤ byteAt fields 0 ∧ byteAt fields 0 ≤ 63
  · rw [if_pos ha]
    cases readAnswer (byteAt fields 1) (fields.drop 2) with
    | none => rfl
    | some a => simp [ha]
  · rw [if_neg ha]
    cases readAnswer (byteAt fields 1) (fields.drop 2) with
    | none => rfl
    | some a => simp [ha]

theorem classify_late (fits : Nat → Answer → Bool) (chars : List RxChar) : classify fits (.answer chars false) = .garbled := by
  simp only [classify]
  split <;> simp

theorem classify_framingError (fits : Nat → Answer → Bool) {chars : List RxChar} (h : RxChar.framingError ∈ chars)
    (inTime : Bool) : classify fits (.answer chars inTime) = .garbled := by
  simp [classify, readStation, charBytes_framingError chars h]

/-- A whole frame's last two bytes are the check of the rest (R181). -/
theorem readStation_badCheck {fields : List Byte} {high low : Byte} (h : [high, low] ≠ crcBytes (crc16 fields)) :
    readStation ((fields ++ [high, low]).map RxChar.byte) = none := by
  simp only [readStation, charBytes_bytes]
  rw [if_neg]
  intro ⟨_, check, _⟩
  exact h (by simpa using check)

theorem readStation_short {bytes : List Byte} (h : bytes.length < 4) : readStation (bytes.map RxChar.byte) = none := by
  simp only [readStation, charBytes_bytes]
  rw [if_neg]
  omega

theorem classify_badCheck (fits : Nat → Answer → Bool) {fields : List Byte} {high low : Byte}
    (h : [high, low] ≠ crcBytes (crc16 fields)) (inTime : Bool) :
    classify fits (.answer ((fields ++ [high, low]).map RxChar.byte) inTime) = .garbled := by
  simp only [classify, readStation_badCheck h]

theorem classify_short (fits : Nat → Answer → Bool) {bytes : List Byte} (h : bytes.length < 4) (inTime : Bool) :
    classify fits (.answer (bytes.map RxChar.byte) inTime) = .garbled := by
  simp only [classify, readStation_short h]

end Sys2Proof.Machine
end

