-- ==== Sys2Proof/Laws/PlanStore.lean ====
section
/-!
SUPPORT. The plan store as a memory: a write keeps its canonical form, and a slot reads as the last write to it left it.
-/
namespace Sys2Proof.Machine

theorem PlanStore.above_mono {m n : Nat} (hmn : m ≤ n) : ∀ {store : PlanStore}, PlanStore.above n store = true →
    PlanStore.above m store = true
  | [], _ => rfl
  | (k, v) :: rest, h => by
    simp only [PlanStore.above, Bool.and_eq_true, decide_eq_true_eq] at h ⊢
    exact ⟨⟨le_trans hmn h.1.1, h.1.2⟩, h.2⟩

/-- A write within the store's addresses keeps addresses rising above a bound at or below it. -/
theorem PlanStore.above_write {a : Nat} (ha : a < Config.planSlots) (c : Option Step) :
    ∀ {store : PlanStore} {n : Nat}, n ≤ a → PlanStore.above n store = true → PlanStore.above n (store.write a c) = true
  | [], n, hn, _ => by
    cases c with
    | none => rfl
    | some v => simp [PlanStore.write, PlanStore.above, hn, ha]
  | (k, v) :: rest, n, hn, h => by
    have hk := h
    simp only [PlanStore.above, Bool.and_eq_true, decide_eq_true_eq] at hk
    obtain ⟨⟨h1, h2⟩, h3⟩ := hk
    unfold PlanStore.write
    split
    · rename_i hak
      cases c with
      | none => exact h
      | some w =>
        simp only [PlanStore.above, Bool.and_eq_true, decide_eq_true_eq]
        exact ⟨⟨hn, ha⟩, ⟨by omega, h2⟩, h3⟩
    · split
      · rename_i hak
        subst hak
        cases c with
        | none => exact PlanStore.above_mono (by omega) h3
        | some w =>
          simp only [PlanStore.above, Bool.and_eq_true, decide_eq_true_eq]
          exact ⟨⟨hn, ha⟩, h3⟩
      · simp only [PlanStore.above, Bool.and_eq_true, decide_eq_true_eq]
        exact ⟨⟨h1, h2⟩, PlanStore.above_write ha c (by omega) h3⟩

/-- A write within the store keeps its canonical form. -/
theorem PlanStore.wf_write {store : PlanStore} {a : Nat} (ha : a < Config.planSlots) (c : Option Step)
    (h : store.wf = true) : (store.write a c).wf = true :=
  PlanStore.above_write ha c (Nat.zero_le a) h

/-- Writes to consecutive slots within the store keep its canonical form. -/
theorem PlanStore.wf_writeAll : ∀ {l : List (Option Step)} {store : PlanStore} {a : Nat}, a + l.length ≤ Config.planSlots →
    store.wf = true → (store.writeAll a l).wf = true
  | [], _, _, _, h => h
  | r :: rest, store, a, hl, h => by
    simp only [List.length_cons] at hl
    exact PlanStore.wf_writeAll (store := store.write a r) (a := a + 1) (by omega) (PlanStore.wf_write (by omega) r h)

/-- A slot below every listed address is EMPTY. -/
theorem PlanStore.read_below : ∀ {store : PlanStore} {n a : Nat}, a < n → PlanStore.above n store = true → store.read a = none
  | [], _, _, _, _ => rfl
  | (k, v) :: rest, n, a, ha, h => by
    simp only [PlanStore.above, Bool.and_eq_true, decide_eq_true_eq] at h
    unfold PlanStore.read
    rw [if_neg (by omega)]
    exact PlanStore.read_below (by omega) h.2

/-- What a slot reads as after a write. -/
theorem PlanStore.read_write_above {a : Nat} (c : Option Step) (j : Nat) : ∀ {store : PlanStore} {n : Nat},
    PlanStore.above n store = true → (store.write a c).read j = if j = a then c else store.read j
  | [], _, _ => by
    cases c with
    | none => simp [PlanStore.write, PlanStore.read]
    | some v =>
      by_cases h : j = a
      · subst h; simp [PlanStore.write, PlanStore.read]
      · have : ¬ a = j := fun e => h e.symm
        simp [PlanStore.write, PlanStore.read, h, this]
  | (k, v) :: rest, n, h => by
    have hk := h
    simp only [PlanStore.above, Bool.and_eq_true, decide_eq_true_eq] at hk
    obtain ⟨⟨h1, h2⟩, h3⟩ := hk
    unfold PlanStore.write
    split
    · rename_i hak
      cases c with
      | none =>
        by_cases hj : j = a
        · subst hj
          rw [if_pos rfl]
          unfold PlanStore.read
          rw [if_neg (by omega)]
          exact PlanStore.read_below (by omega) h3
        · rw [if_neg hj]
      | some w =>
        by_cases hj : j = a
        · subst hj; simp [PlanStore.read]
        · have : ¬ a = j := fun e => hj e.symm
          simp [PlanStore.read, hj, this]
    · split
      · rename_i hak
        subst hak
        cases c with
        | none =>
          by_cases hj : j = a
          · subst hj
            rw [if_pos rfl]
            exact PlanStore.read_below (by omega) h3
          · have : ¬ a = j := fun e => hj e.symm
            simp [PlanStore.read, hj, this]
        | some w =>
          by_cases hj : j = a
          · subst hj; simp [PlanStore.read]
          · have : ¬ a = j := fun e => hj e.symm
            simp [PlanStore.read, hj, this]
      · rename_i hlt hne
        by_cases hkj : k = j
        · have : ¬ j = a := by omega
          simp [PlanStore.read, hkj, this]
        · simp only [PlanStore.read, if_neg hkj]
          exact PlanStore.read_write_above c j h3

/-- What a slot reads as after a write: the content written, or what it held (R34). -/
theorem PlanStore.read_write {store : PlanStore} (h : store.wf = true) (a : Nat) (c : Option Step) (j : Nat) :
    (store.write a c).read j = if j = a then c else store.read j :=
  PlanStore.read_write_above c j h

/-- Reading after a run of records is written: the record of the run's slots, the earlier content of every other. -/
theorem PlanStore.read_writeAll : ∀ {l : List (Option Step)} {store : PlanStore} {a : Nat},
    a + l.length ≤ Config.planSlots → store.wf = true → ∀ j, (store.writeAll a l).read j =
      if a ≤ j ∧ j < a + l.length then l.getD (j - a) none else store.read j
  | [], store, a, _, _, j => by
    rw [if_neg (by simp)]; rfl
  | c :: l, store, a, hl, hw, j => by
    simp only [List.length_cons] at hl ⊢
    have ha : a < Config.planSlots := by omega
    rw [PlanStore.writeAll, PlanStore.read_writeAll (by omega) (PlanStore.wf_write ha c hw) j, PlanStore.read_write hw]
    by_cases h : j = a
    · subst h; rw [if_neg (by omega), if_pos rfl, if_pos (by omega)]; simp
    · by_cases h2 : a + 1 ≤ j ∧ j < a + 1 + l.length
      · rw [if_pos h2, if_pos (by omega)]
        obtain ⟨k, rfl⟩ : ∃ k, j = a + 1 + k := ⟨j - (a + 1), by omega⟩
        rw [show a + 1 + k - (a + 1) = k by omega, show a + 1 + k - a = k + 1 by omega]; rfl
      · rw [if_neg h2, if_neg h, if_neg (by omega)]

end Sys2Proof.Machine
end

