-- ==== Sys2Proof/Laws/Points.lean ====
section
/-!
SUPPORT. What the shared operations of a point do, each said once: its tests as propositions, the end of a wash step, a returned turn, a
command wanted, entry into FREE and DOWN, a bus taken, a tally's whole units.
-/
namespace Sys2Proof.Machine

variable {e : Env} {y : Yard} {p : PointId} {q : Point} {f : Nat} {t : PoolEntry} {b : Bus}

/-! ### Tests as propositions -/

theorem Yard.waitIn_iff (hb : y.bus? f = some b) (ws : List PlanWait) : y.waitIn f ws = true ↔ b.wait ∈ ws := by
  simp [Yard.waitIn, hb]

/-- The bus holds its entry in SERVING at the point. -/
theorem Yard.servingAt_iff : y.servingAt p f = true ↔
    ∃ t b, y.turn? f = some t ∧ t.status = .serving p ∧ y.bus? f = some b ∧ b.wait = .serving := by
  unfold Yard.servingAt Yard.waitIn
  cases y.turn? f <;> cases y.bus? f <;> simp

/-- A point offers what a request asks (R63, R67, R83). -/
theorem Point.serves_fuel (q : Point) (k : FuelKind) : q.serves (.fuel k) = true ↔
    q.id.isWash = false ∧
      (q.offers = some .both ∨ (q.offers = some .diesel ∧ k = .diesel) ∨ (q.offers = some .gas ∧ k = .gas)) := by
  unfold Point.serves
  cases q.offers with
  | none => simp
  | some o => cases o <;> cases k <;> simp [Offers.serves]

theorem Point.serves_wash (q : Point) (program passes : Nat) : q.serves (.wash program passes) = true ↔ q.id.isWash = true := Iff.rfl

/-- The bus qualifies (R67, R83). -/
theorem Yard.qualifies_iff : y.qualifies q f = true ↔
    ∃ t b, y.turn? f = some t ∧ q.serves t.request = true ∧ y.bus? f = some b ∧ (b.wait = .turn ∨ b.wait = .called) ∧
      ∀ r ∈ y.points, r.id = q.id ∨ r.bus ≠ some f ∨ r.state = .calling := by
  unfold Yard.qualifies Yard.waitIn
  cases y.turn? f with
  | none => simp
  | some t =>
    cases y.bus? f with
    | none => simp
    | some b => simp [List.all_eq_true, or_assoc, and_assoc]

/-- Tenths rounded to whole units, a half to the even number. -/
theorem wholeUnits_spec (tenths : Nat) : 10 * wholeUnits tenths ≤ tenths + 5 ∧ tenths ≤ 10 * wholeUnits tenths + 5 ∧
    (tenths % 10 = 5 → wholeUnits tenths % 2 = 0) := by
  unfold wholeUnits
  split_ifs <;> omega

/-! ### The end of a wash step -/

/-- A wash step of a bus in SERVING ends with an advance past it, whichever signal ends it (R85). -/
theorem Yard.washStep_ends {residue : Nat} {place : Option Place} (ht : y.turn? f = some t) (hb : y.bus? f = some b)
    (hw : b.wait = .serving) :
    let ended := (((y.setBus f (fun b => { b with residue, washWanted := if residue = 0 then false else b.washWanted })).freeTurn
      f).post e .turnDone f place residue (t.request.passes - residue)).advancePast e f
    y.completeWash e f residue place = ended ∧ y.frostWash e f residue place = ended := by
  intro ended
  have step : y.endWashStep e f residue place =
      ((y.setBus f (fun b => { b with residue, washWanted := if residue = 0 then false else b.washWanted })).freeTurn f).post e
        .turnDone f place residue (t.request.passes - residue) := by
    simp only [Yard.endWashStep, ht]
  have bus : (y.endWashStep e f residue place).bus? f =
      some { b with residue, washWanted := if residue = 0 then false else b.washWanted } := by
    rw [step, Yard.bus_post, Yard.bus_freeTurn, Yard.bus_setBus _ _ _ (by intro; rfl), if_pos rfl, hb]
    rfl
  constructor
  · unfold Yard.completeWash Yard.serviceComplete
    rw [if_pos ((Yard.waitIn_iff bus _).2 (by simp [hw])), step]
  · unfold Yard.frostWash Yard.frostEnd
    rw [if_pos ((Yard.waitIn_iff bus _).2 (by simp [hw])), step]

/-- "Frost end" handed to a bus, said on its record. -/
theorem Yard.frostEnd_eq (e : Env) (f : Nat) (y : Yard) : y.frostEnd e f =
    match y.bus? f with
    | none => y
    | some b =>
      if b.wait = .turn ∨ b.wait = .called ∨ b.wait = .serving then
        (y.setBus f (fun b => { b with repeatCount := none })).advanceSteps e f 16 none (b.cursor.getD 0 + 1)
      else y := by
  unfold Yard.frostEnd Yard.advancePast
  cases hb : y.bus? f with
  | none => simp [Yard.waitIn, hb]
  | some b =>
    simp only []
    by_cases h : b.wait = .turn ∨ b.wait = .called ∨ b.wait = .serving
    · rw [if_pos h, if_pos ((Yard.waitIn_iff hb _).2 (by simpa using h))]
      rfl
    · rw [if_neg h, if_neg (by rw [Yard.waitIn_iff hb]; simpa using h)]

/-- A turn returned outside frost (R58): the entry WAITING, a called or served bus in TURN again, a selection event. -/
theorem Yard.returnTurn_waits (ht : y.turn? f = some t) (hq : y.point? p = some q) (hb : y.bus? f = some b)
    (hf : (t.request.isWash && y.frost) = false) :
    let returned := y.setTurn f (fun t => { t with status := .waiting })
    y.returnTurn e p f = (if b.wait = .called ∨ b.wait = .serving then returned.setWait f .turn else returned).raise := by
  intro returned
  have bus : returned.bus? f = some b := hb
  simp only [Yard.returnTurn, ht, hq, hf, Bool.false_eq_true, if_false]
  unfold Yard.turnReturned
  by_cases h : b.wait = .called ∨ b.wait = .serving
  · rw [if_pos h, if_pos ((Yard.waitIn_iff bus _).2 (by simpa using h))]
  · rw [if_neg h, if_neg (by rw [Yard.waitIn_iff bus]; simpa using h)]

/-- A wash turn returned in frost ends by frost instead (R85). -/
theorem Yard.returnTurn_frost (ht : y.turn? f = some t) (hq : y.point? p = some q) (hf : (t.request.isWash && y.frost) = true) :
    y.returnTurn e p f =
      y.frostWash e f (if t.status = .serving p then q.passesLeft else t.request.passes) (some (.point p)) := by
  simp only [Yard.returnTurn, ht, hq, hf, if_true]

/-! ### A point's record -/

theorem Yard.vacatePoint_eq (hq : y.point? p = some q) (g : Point → Point) :
    y.vacatePoint p g = if q.bus.isSome then (y.setPoint p g).raise else y.setPoint p g := by
  simp only [Yard.vacatePoint, hq]

/-- A call or a service undone (R72, R94), by the entry of the point's bus. -/
theorem Yard.undoTurn_eq (hq : y.point? p = some q) (hf : q.bus = some f) (ht : y.turn? f = some t) :
    let stopped := y.setPoint p (fun q => { q with callTimer := none })
    y.undoTurn e p =
      if t.status = .called p then (stopped.releaseClaim f .call).returnTurn e p f
      else if t.status = .serving p then stopped.returnTurn e p f
      else stopped := by
  intro stopped
  simp only [Yard.undoTurn, hq, hf]
  rw [show (y.setPoint p (fun q => { q with callTimer := none })).turn? f = some t from ht]

/-- A bus taken (R67, R84): the point's record by the request, the entry SERVING, a bus in TURN or CALLED now in SERVING. -/
theorem Yard.busAtPoint_eq (hb : y.bus? f = some b) :
    y.busAtPoint f = if b.wait = .called ∨ b.wait = .turn then y.setBus f (fun b => { b with wait := .serving }) else y := by
  unfold Yard.busAtPoint
  by_cases h : b.wait = .called ∨ b.wait = .turn
  · rw [if_pos h, if_pos ((Yard.waitIn_iff hb _).2 (by simpa using h))]
    rfl
  · rw [if_neg h, if_neg (by rw [Yard.waitIn_iff hb]; simpa using h)]

/-- A command of the point is outstanding: queued, or in flight (R61, R81). -/
theorem Yard.outstanding_iff : (y.outstanding? p).isSome = true ↔
    (∃ c ∈ y.cmdQueue, c.owner = .point p) ∨ (∃ g, y.inFlight = some g ∧ g.command.owner = .point p) := by
  unfold Yard.outstanding? Yard.unsent? Yard.onLine?
  rw [Option.isSome_or, Bool.or_eq_true, List.find?_isSome]
  refine or_congr (by simp) ?_
  cases y.inFlight with
  | none => simp
  | some g => by_cases hg : g.command.owner = .point p <;> simp [hg]

/-- A command wanted by a point changes its record in the deferred command alone, and beside it only the command queue. -/
theorem Yard.wantPoint_spec (hq : y.point? p = some q) (order : Order) :
    ∃ deferred, (y.wantPoint p order).point? p = some { q with deferred } ∧
      (∀ r, r ≠ p → (y.wantPoint p order).point? r = y.point? r) ∧
      y.wantPoint p order = { y with points := (y.wantPoint p order).points, cmdQueue := (y.wantPoint p order).cmdQueue } := by
  unfold Yard.wantPoint
  rw [hq]
  simp only []
  repeat' split
  all_goals first
    | exact ⟨q.deferred, hq, fun _ _ => rfl, rfl⟩
    | exact ⟨q.deferred, by rw [Yard.point_queueCommand, hq], fun _ _ => rfl, rfl⟩
    | exact ⟨some order, by rw [Yard.point_setPoint _ _ _ (by intro; rfl), if_pos rfl, hq]; rfl,
        fun r hr => by rw [Yard.point_setPoint _ _ _ (by intro; rfl), if_neg hr], rfl⟩

/-! ### LINE_RESTARTED at a point -/

/-- What a point wants again after a restart, by its state (R77, R94). -/
theorem Yard.pointRestarted_eq (p : PointId) (y : Yard) : y.pointRestarted p =
    match y.point? p with
    | none => y
    | some q =>
      if q.state = .calling then y.wantPoint p (.call (q.bus.getD 0))
      else if q.state = .recovering then y.wantPoint p .resetPoint
      else if q.state = .occupied then
        match q.program with
        | some program => y.wantPoint p (.startPass program)
        | none => y
      else y := by
  unfold Yard.pointRestarted
  cases y.point? p with
  | none => rfl
  | some q =>
    simp only []
    cases q.state <;> rfl

theorem Yard.raise_ids (y : Yard) : y.raise.points.map Point.id = y.points.map Point.id := by
  simp only [Yard.raise, List.map_map]
  apply List.map_congr_left
  intro q _
  simp only [Function.comp_apply]
  split <;> rfl

/-- No lane told of a restart changes which points there are. -/
theorem Yard.laneRestarted_ids (e : Env) (n : Nat) (y : Yard) : (y.laneRestarted e n).points.map Point.id = y.points.map Point.id := by
  have want : ∀ z : Yard, (z.wantSign n).points = z.points := fun z => (Yard.Berths.wantSign [] n z).points
  unfold Yard.laneRestarted
  split
  · rfl
  · split
    · unfold Yard.laneAlive
      split
      · rfl
      · split
        · rw [Yard.raise_ids, (Yard.Berths.rerunWaits (kinds := [.berthAssigned]) (by simp) e _).points, want]
          rfl
        · rfl
    · rw [want]

theorem Yard.lanesRestarted_ids (e : Env) : ∀ (ns : List Nat) (y : Yard),
    (ns.foldl (fun y n => y.laneRestarted e n) y).points.map Point.id = y.points.map Point.id
  | [], _ => rfl
  | n :: ns, y => by rw [List.foldl_cons, Yard.lanesRestarted_ids e ns, Yard.laneRestarted_ids]

end Sys2Proof.Machine
end

