-- ==== Sys2Proof/Laws/Replies.lean ====
section
/-!
SUPPORT. What the fields of a query's reply hold: enumeration codes as places in the spec's tables, absent values, and the numbers that a
body's bytes spell.
-/
namespace Sys2Proof.Machine

/-- A 16-bit number survives its two bytes. -/
theorem word_bytes (w : Word) : (BitVec.ofNat 8 (w.toNat / 256)).toNat * 256 + (BitVec.ofNat 8 w.toNat).toNat = w.toNat := by
  have := w.isLt
  simp
  omega

/-- An absent number is sent as 65535. -/
theorem u16Absent_eq (a : Option Nat) : u16Absent a = u16 (a.getD 65535) := by cases a <;> rfl

/-- A plan wait is coded by its place in the list of Table 11-7. -/
theorem PlanWait.code_eq (w : PlanWait) : w.code =
    [PlanWait.noPlan, .turn, .called, .serving, .hold, .berth, .entry, .ended, .stalled, .faulted].idxOf w := by cases w <;> rfl

/-- A departure state is coded by its place in Table 7-2. -/
theorem DepartureState.code_eq (d : DepartureState) : d.code =
    [DepartureState.waiting, .due, .confirming, .blocked, .late, .released, .outbound].idxOf d := by cases d <;> rfl

/-- A plan fault is coded by its place in Table 3-2, counted from 1. -/
theorem FaultCause.code_eq (c : FaultCause) : c.code =
    1 + [FaultCause.emptyStep, .range, .stackFull, .stackEmpty, .badRepeat, .runaway, .missedCalls, .parkTimeout].idxOf c := by
  cases c <;> rfl

/-- A position's code (Table 2-3). -/
theorem Position.code_eq (pos : Position) : pos.code =
    match pos with
    | .outside => 0
    | .loose => 1
    | .inLane n => 10 + n
    | .atPoint (.island n) => 40 + n
    | .atPoint (.wash n) => 50 + n := by
  rcases pos with _ | _ | n | (n | n) <;> rfl

/-- A bus's departure entry in its report (Table 11-7). -/
theorem departureBytes_eq (d : Option Departure) : departureBytes d =
    u16 ((d.map Departure.slot).getD 65535) ++ u8 ((d.map (fun d => d.state.code)).getD 255) := by cases d <;> rfl

/-- A bus's pool entry in its report (Table 11-7). -/
theorem turnBytes_eq (t : Option PoolEntry) : turnBytes t =
    u24 ((t.map PoolEntry.time).getD 0) ++ u8 ((t.map PoolEntry.skip).getD 0) := by cases t <;> rfl

theorem FuelKind.code_eq (k : FuelKind) : k.code = if k = .diesel then 0 else 1 := by cases k <;> rfl

theorem BusLength.code_eq (l : BusLength) : l.code = if l = .standard then 0 else 1 := by cases l <;> rfl

end Sys2Proof.Machine
end

