-- ==== Sys2Proof/Laws/Requests.lean ====
section
/-!
SUPPORT. What the taking of a request does: one lemma for the three stages of R183, and the facts about replies that the rows share.
-/
namespace Sys2Proof.Machine

/-- A row leaves a state alone when no request may be taken. -/
theorem Request.serve_idle {q : Request} {s : State} (h : s.front? = none) : q.serve s = s := by
  unfold Request.serve; rw [h]

/-- A row leaves a request of another row alone. -/
theorem Request.serve_other {q : Request} {s : State} {b : List Byte} (h : s.Takes b) (ht : q.takes b = false) :
    q.serve s = s := by
  unfold Request.serve; rw [show s.front? = some b from h]; simp [ht]

/-- A row takes a request of its own: length, yard mode, and then the owner's action, whose reply is queued. -/
theorem Request.serve_own {q : Request} {s : State} {b : List Byte} (h : s.Takes b) (ht : q.takes b = true) :
    q.serve s = State.answered b (q.result b s) := by
  unfold Request.serve; rw [show s.front? = some b from h]; simp [ht]

/-- A request that passes the length and mode checks is acted on. -/
theorem Request.serve_acts {q : Request} {s : State} {b : List Byte} (h : s.Takes b) (ht : q.takes b = true)
    (hl : q.length b = true) (hm : q.mode s.mode = true) : q.serve s = State.answered b (q.act b s) := by
  rw [Request.serve_own h ht]; simp [Request.result, Request.own, hl, hm]

/-- The answering of a request is `State.reply`. -/
theorem State.answered_eq (b : List Byte) (s : State) (r : Reply) : State.answered b (s, r) = s.reply b r.result r.data := rfl

/-- Stages 2 and 3 only ever change what the owner's action changes. -/
theorem Request.result_fst {q : Request} {s : State} {b : List Byte} :
    (q.result b s).1 = s ∨ (q.result b s).1 = (q.act b s).1 := by
  unfold Request.result Request.own
  split
  · split
    · exact Or.inr rfl
    · exact Or.inl rfl
  · exact Or.inl rfl

@[simp] theorem replyOnly_fst (r : Reply) (s : State) : (replyOnly r s).1 = s := rfl
@[simp] theorem replyOnly_snd (r : Reply) (s : State) : (replyOnly r s).2 = r := rfl
@[simp] theorem State.done_fst (s : State) (y : Yard) : (s.done y).1 = { s with yard := y } := rfl
@[simp] theorem State.done_snd (s : State) (y : Yard) : (s.done y).2 = Reply.ok [] := rfl

/-- What a request's action leaves alone, row by row: the request queue and the replies that wait (R182, R184). -/
theorem Request.act_keeps_link {c : Instr} {q : Request} (h : requestOf c = some q) (b : List Byte) (s : State) :
    (q.act b s).1.link.requests = s.link.requests ∧ (q.act b s).1.link.replies = s.link.replies := by
  cases c <;> simp [requestOf] at h <;> subst h <;>
    simp only [
      unknownKindRequest, echoRequest, laneDefineRequest, laneDefineRemoveRequest, pointDefineRequest,
      pointDefineRemoveRequest, stationDefineRequest, stationDefineRemoveRequest, layoutCommitRequest,
      timingSetRequest, clockSetRequest, statusQueryRequest, yardResetRequest, busEnrolRequest, busSetRequest,
      busQueryRecordRequest, busQueryListRequest, busWithdrawRequest, planWriteRequest, planReadRequest,
      planStartRequest, planResumeRequest, planAbortRequest, turnQueryQueueRequest, turnQueryPointsRequest,
      pointCloseRequest, pointOpenRequest, frostSetOnRequest, frostSetOffRequest, laneQueryLaneRequest,
      laneQueryWaitsRequest, laneHoldRequest, laneUnholdRequest, laneCloseRequest, laneOpenRequest, laneForceRequest,
      laneSetRequest, shuntRequest, slotAddRequest, slotRemoveRequest, slotMoveRequest, pulloutStartRequest,
      pulloutStopRequest, departQueryRequest, lineAskRequest, lineRestartRequest, stationQueryRequest,
      noticeMapRequest, noticeEnableRequest, noticeTallyRequest, defineLane, removeLane, definePoint, removePoint,
      defineStation, removeStation, commitLayout, setTiming, setClock, enrolBus, setBusFields, queryBus, listBuses,
      withdrawBus, writePlan, readPlan, startPlan, resumePlan, abortPlanOf, queryQueue, closeNamed, openNamed,
      setFrostOn, setFrostOff, queryLane, queryWaits, onLane, holdLane, unholdLane, closeLane, openLane, forceLane,
      setLaneList, shuntBus, addSlotOf, removeSlotOf, moveSlotOf, startPullout, stopPullout, queryDepartures,
      queueAsk, queryStations, mapNotices, enableNotices, tallyNotices, State.done, State.noticed, replyOnly,
      Reply.refuse, Reply.ok, State.restartLine, State.yardReset] <;>
    (repeat' split) <;> first | exact ⟨rfl, rfl⟩ | (simp_all; done)

/-- An action answers none of the results of the stages before it (R183). -/
theorem Request.act_result {c : Instr} {q : Request} (h : requestOf c = some q) (hc : c ≠ .unknownKind) (b : List Byte)
    (s : State) : (q.act b s).2.result ∉ [.unknownKind, .badLength, .wrongMode] := by
  cases c <;> simp [requestOf] at h <;> subst h <;>
    simp only [
      unknownKindRequest, echoRequest, laneDefineRequest, laneDefineRemoveRequest, pointDefineRequest,
      pointDefineRemoveRequest, stationDefineRequest, stationDefineRemoveRequest, layoutCommitRequest,
      timingSetRequest, clockSetRequest, statusQueryRequest, yardResetRequest, busEnrolRequest, busSetRequest,
      busQueryRecordRequest, busQueryListRequest, busWithdrawRequest, planWriteRequest, planReadRequest,
      planStartRequest, planResumeRequest, planAbortRequest, turnQueryQueueRequest, turnQueryPointsRequest,
      pointCloseRequest, pointOpenRequest, frostSetOnRequest, frostSetOffRequest, laneQueryLaneRequest,
      laneQueryWaitsRequest, laneHoldRequest, laneUnholdRequest, laneCloseRequest, laneOpenRequest, laneForceRequest,
      laneSetRequest, shuntRequest, slotAddRequest, slotRemoveRequest, slotMoveRequest, pulloutStartRequest,
      pulloutStopRequest, departQueryRequest, lineAskRequest, lineRestartRequest, stationQueryRequest,
      noticeMapRequest, noticeEnableRequest, noticeTallyRequest, defineLane, removeLane, definePoint, removePoint,
      defineStation, removeStation, commitLayout, setTiming, setClock, enrolBus, setBusFields, queryBus, listBuses,
      withdrawBus, writePlan, readPlan, startPlan, resumePlan, abortPlanOf, queryQueue, closeNamed, openNamed,
      setFrostOn, setFrostOff, queryLane, queryWaits, onLane, holdLane, unholdLane, closeLane, openLane, forceLane,
      setLaneList, shuntBus, addSlotOf, removeSlotOf, moveSlotOf, startPullout, stopPullout, queryDepartures,
      queueAsk, queryStations, mapNotices, enableNotices, tallyNotices, State.done, State.noticed, replyOnly,
      Reply.refuse, Reply.ok, State.restartLine, State.yardReset] <;>
    (repeat' split) <;> simp_all

/-- One command at the front: the step is its meaning on the state with the queue's rest. -/
theorem step_cons (s : State) (i : Instr) (rest : List Instr) :
    step { s with pending := i :: rest } = exec i { s with pending := rest } := rfl

/-- No command: the step ends a master frame being sent, and does nothing else. -/
theorem step_nil {s : State} (h : s.pending = []) : step s = .next s.idle := by
  simp [step, h]

end Sys2Proof.Machine
end

