-- ==== Sys2Proof/Laws/Teardown.lean ====
section
/-!
SUPPORT. What giving back the claims of a bus does (R21): afterwards no lane names it, and nothing of another bus has changed but a
berth granted.
-/
namespace Sys2Proof.Machine

/-! ### The lanes, record by record -/

/-- A lane record after a sign update keeps its reservations and its release. -/
theorem Yard.updateSign_mem {n : Nat} {y : Yard} {l : Lane} (hl : l ∈ (y.updateSign n).lanes) :
    ∃ m ∈ y.lanes, l.number = m.number ∧ l.reservations = m.reservations ∧ l.release = m.release := by
  have set : ∀ (g : Lane → Lane) (z : Yard), (∀ m, (g m).number = m.number ∧ (g m).reservations = m.reservations ∧
      (g m).release = m.release) → ∀ l ∈ (z.setLane n g).lanes,
      ∃ m ∈ z.lanes, l.number = m.number ∧ l.reservations = m.reservations ∧ l.release = m.release := by
    intro g z hg l hl
    simp only [Yard.setLane_lanes, List.mem_map] at hl
    obtain ⟨m, hm, rfl⟩ := hl
    refine ⟨m, hm, ?_⟩
    split
    · exact hg m
    · exact ⟨rfl, rfl, rfl⟩
  have want : ∀ z : Yard, ∀ l ∈ (z.wantSign n).lanes,
      ∃ m ∈ z.lanes, l.number = m.number ∧ l.reservations = m.reservations ∧ l.release = m.release := by
    intro z l hl
    unfold Yard.wantSign at hl
    split at hl
    · exact ⟨l, hl, rfl, rfl, rfl⟩
    · split at hl
      · exact ⟨l, hl, rfl, rfl, rfl⟩
      · exact set (fun l => { l with signPending := true }) z (fun _ => ⟨rfl, rfl, rfl⟩) l hl
      · exact ⟨l, hl, rfl, rfl, rfl⟩
  unfold Yard.updateSign at hl
  split at hl
  · exact ⟨l, hl, rfl, rfl, rfl⟩
  · split at hl
    · exact ⟨l, hl, rfl, rfl, rfl⟩
    · obtain ⟨k, hk, e1, e2, e3⟩ := want _ l hl
      obtain ⟨m, hm, d1, d2, d3⟩ := set (fun l => { l with sign := l.content }) y (fun _ => ⟨rfl, rfl, rfl⟩) k hk
      exact ⟨m, hm, e1.trans d1, e2.trans d2, e3.trans d3⟩

/-- A dropped reservation leaves its lane alone. -/
theorem Yard.dropReservation_mem {n f : Nat} {y : Yard} {l : Lane} (hl : l ∈ (y.dropReservation n f).lanes) :
    ∃ m ∈ y.lanes, l.number = m.number ∧ l.release = m.release ∧
      l.reservations = if m.number = n then m.reservations.filter (fun r => r.bus != f) else m.reservations := by
  obtain ⟨k, hk, e1, e2, e3⟩ := Yard.updateSign_mem hl
  simp only [Yard.setLane_lanes, List.mem_map] at hk
  obtain ⟨m, hm, rfl⟩ := hk
  refine ⟨m, hm, ?_⟩
  rw [e1, e2, e3]
  split <;> exact ⟨rfl, rfl, by simp [Lane.unreserve]⟩

/-- A cleared release is absent from its lane alone. -/
theorem Yard.clearRelease_mem {n : Nat} {y : Yard} {l : Lane} (hl : l ∈ (y.clearRelease n).lanes) :
    ∃ m ∈ y.lanes, l.number = m.number ∧ l.reservations = m.reservations ∧
      l.release = if m.number = n then none else m.release := by
  obtain ⟨k, hk, e1, e2, e3⟩ :=
    Yard.updateSign_mem (show l ∈ ((y.setLane n (fun l => { l with release := none })).updateSign n).lanes from hl)
  simp only [Yard.setLane_lanes, List.mem_map] at hk
  obtain ⟨m, hm, rfl⟩ := hk
  refine ⟨m, hm, ?_⟩
  rw [e1, e2, e3]
  split <;> exact ⟨rfl, rfl, rfl⟩

theorem Yard.dropReservations_mem (f : Nat) : ∀ (ns : List Nat) (y : Yard),
    ∀ l ∈ (ns.foldl (fun y n => y.dropReservation n f) y).lanes, ∃ m ∈ y.lanes, l.number = m.number ∧ l.release = m.release ∧
      l.reservations = if m.number ∈ ns then m.reservations.filter (fun r => r.bus != f) else m.reservations
  | [], _, l, hl => ⟨l, hl, rfl, rfl, by simp⟩
  | n :: ns, y, l, hl => by
    obtain ⟨k, hk, e1, e2, e3⟩ := Yard.dropReservations_mem f ns _ l hl
    obtain ⟨m, hm, d1, d2, d3⟩ := Yard.dropReservation_mem hk
    refine ⟨m, hm, e1.trans d1, e2.trans d2, ?_⟩
    rw [e3, d3, d1]
    by_cases hn : m.number = n <;> by_cases hk : m.number ∈ ns <;> simp [hn, hk]

theorem Yard.clearReleases_mem : ∀ (ns : List Nat) (y : Yard),
    ∀ l ∈ (ns.foldl (fun y n => y.clearRelease n) y).lanes, ∃ m ∈ y.lanes, l.number = m.number ∧
      l.reservations = m.reservations ∧ l.release = if m.number ∈ ns then none else m.release
  | [], _, l, hl => ⟨l, hl, rfl, rfl, by simp⟩
  | n :: ns, y, l, hl => by
    obtain ⟨k, hk, e1, e2, e3⟩ := Yard.clearReleases_mem ns _ l hl
    obtain ⟨m, hm, d1, d2, d3⟩ := Yard.clearRelease_mem hk
    refine ⟨m, hm, e1.trans d1, e2.trans d2, ?_⟩
    rw [e3, d3, d1]
    by_cases hn : m.number = n <;> by_cases hk : m.number ∈ ns <;> simp [hn, hk]

/-! ### No lane names the bus -/

/-- No lane has a reservation or a release of the bus. -/
def Yard.LanesClearOf (f : Nat) (y : Yard) : Prop :=
  ∀ l ∈ y.lanes, (∀ r ∈ l.reservations, r.bus ≠ f) ∧ ∀ reason, l.release ≠ some (f, reason)

theorem Yard.LanesClearOf.reservation {f : Nat} {y : Yard} (h : y.LanesClearOf f) : y.reservation? f = none := by
  unfold Yard.reservation?
  rw [List.findSome?_eq_none_iff]
  intro l hl
  simp only [Option.map_eq_none_iff, List.find?_eq_none]
  intro r hr
  simpa using (h l hl).1 r hr

/-- Every reservation and every claim of the bus given back. -/
theorem Yard.LanesClearOf.givenBack (f : Nat) (y : Yard) : ((y.unreserveAll f).unclaimAll f).LanesClearOf f := by
  intro l hl
  obtain ⟨k, hk, e1, e2, e3⟩ := Yard.clearReleases_mem _ _ l hl
  obtain ⟨m, hm, d1, d2, d3⟩ := Yard.dropReservations_mem f _ _ k hk
  constructor
  · rw [e2, d3]
    intro r hr
    split at hr
    · simpa using (List.mem_filter.1 hr).2
    · rename_i hn
      intro hf
      apply hn
      simp only [List.mem_map, List.mem_filter, List.any_eq_true]
      exact ⟨m, ⟨hm, r, hr, by simpa using hf⟩, rfl⟩
  · intro reason
    rw [e3]
    split
    · simp
    · rename_i hn
      intro hr
      apply hn
      simp only [List.mem_map, List.mem_filter]
      exact ⟨k, ⟨hk, by simp [hr]⟩, rfl⟩

/-- A reservation of another bus. -/
theorem Yard.LanesClearOf.reserve {f : Nat} {y : Yard} (h : y.LanesClearOf f) (e : Env) {b : Bus} (hb : b.fleet ≠ f) (n : Nat)
    (k : ReservationKind) (v : PlanWait) (a c q : Nat) : (y.reserve e b n k v a c q).LanesClearOf f := by
  intro l hl
  unfold Yard.reserve at hl
  obtain ⟨m, hm, e1, e2, e3⟩ := Yard.updateSign_mem hl
  simp only [Yard.setWait_lanes, Yard.setLane_lanes, List.mem_map] at hm
  obtain ⟨a, ha, rfl⟩ := hm
  rw [e2, e3]
  split
  · refine ⟨?_, (h a ha).2⟩
    intro r hr
    simp only [List.mem_append, List.mem_singleton] at hr
    rcases hr with hr | rfl
    · exact (h a ha).1 r hr
    · exact hb
  · exact h a ha

/-- Berths tried for other buses. -/
theorem Yard.LanesClearOf.retryWaits {f : Nat} (e : Env) : ∀ (ws : List BerthWait) (y : Yard), (∀ w ∈ ws, w.bus ≠ f) →
    y.LanesClearOf f → (ws.foldl (Yard.retryWait e) y).LanesClearOf f
  | [], _, _, h => h
  | w :: ws, y, hw, h => by
    refine Yard.LanesClearOf.retryWaits e ws _ (fun v hv => hw v (List.mem_cons_of_mem _ hv)) ?_
    unfold Yard.retryWait
    split
    · exact h
    · rename_i b hb
      split
      · exact Yard.LanesClearOf.reserve (y := y.leaveWaits w.bus) h e (by rw [Yard.bus_fleet hb]; exact hw w List.mem_cons_self) _ _ _ _ _ _
      · exact h

/-! ### The berth wait list and the pool -/

@[simp] theorem Yard.updateSign_waits (n : Nat) (y : Yard) : (y.updateSign n).waits = y.waits := by
  unfold Yard.updateSign Yard.wantSign
  repeat' split
  all_goals rfl

@[simp] theorem Yard.updateSign_pool (n : Nat) (y : Yard) : (y.updateSign n).pool = y.pool := by
  unfold Yard.updateSign Yard.wantSign
  repeat' split
  all_goals rfl

@[simp] theorem Yard.dropReservation_waits (n f : Nat) (y : Yard) : (y.dropReservation n f).waits = y.waits := by
  simp [Yard.dropReservation]
@[simp] theorem Yard.dropReservation_pool (n f : Nat) (y : Yard) : (y.dropReservation n f).pool = y.pool := by
  unfold Yard.dropReservation
  rw [Yard.updateSign_pool]
  rfl
@[simp] theorem Yard.clearRelease_waits (n : Nat) (y : Yard) : (y.clearRelease n).waits = y.waits := by simp [Yard.clearRelease]
@[simp] theorem Yard.clearRelease_pool (n : Nat) (y : Yard) : (y.clearRelease n).pool = y.pool := by
  unfold Yard.clearRelease
  show (Yard.updateSign n _).pool = _
  rw [Yard.updateSign_pool]
  rfl
@[simp] theorem Yard.reserve_waits (e : Env) (b : Bus) (n : Nat) (k : ReservationKind) (v : PlanWait) (a c q : Nat) (y : Yard) :
    (y.reserve e b n k v a c q).waits = y.waits := by simp [Yard.reserve]

theorem Yard.foldl_keeps {α β : Type} {view : Yard → β} {op : Yard → α → Yard} (h : ∀ y a, view (op y a) = view y) :
    ∀ (l : List α) (y : Yard), view (l.foldl op y) = view y
  | [], _ => rfl
  | a :: l, y => (Yard.foldl_keeps h l (op y a)).trans (h y a)

theorem Yard.givenBack_waits (f : Nat) (y : Yard) : ((y.unreserveAll f).unclaimAll f).waits = y.waits :=
  (Yard.foldl_keeps (fun z n => Yard.clearRelease_waits n z) _ _).trans
    (Yard.foldl_keeps (fun z n => Yard.dropReservation_waits n f z) _ _)

theorem Yard.givenBack_pool (f : Nat) (y : Yard) : ((y.unreserveAll f).unclaimAll f).pool = y.pool :=
  (Yard.foldl_keeps (fun z n => Yard.clearRelease_pool n z) _ _).trans
    (Yard.foldl_keeps (fun z n => Yard.dropReservation_pool n f z) _ _)

/-- A re-run of the berth wait list adds no entry. -/
theorem Yard.retryWaits_waits (e : Env) : ∀ (ws : List BerthWait) (y : Yard),
    ∀ w ∈ (ws.foldl (Yard.retryWait e) y).waits, w ∈ y.waits
  | [], _, _, h => h
  | v :: ws, y, w, h => by
    have := Yard.retryWaits_waits e ws _ w h
    unfold Yard.retryWait at this
    split at this
    · exact this
    · split at this
      · rw [Yard.reserve_waits] at this
        exact List.mem_of_mem_filter this
      · exact this

/-- What dropping a bus from the lanes leaves of it, once it is off the berth wait list: nothing in a lane, and still no wait. -/
theorem Yard.dropFromLanes_clear (e : Env) {f : Nat} {y : Yard} (hw : ∀ w ∈ y.waits, w.bus ≠ f) :
    (y.dropFromLanes e f).LanesClearOf f ∧ ∀ w ∈ (y.dropFromLanes e f).waits, w.bus ≠ f := by
  unfold Yard.dropFromLanes
  simp only []
  split
  · refine ⟨Yard.LanesClearOf.retryWaits e _ _ (by rw [Yard.givenBack_waits]; exact hw) (.givenBack f y), ?_⟩
    intro w h
    have := Yard.retryWaits_waits e _ _ w h
    rw [Yard.givenBack_waits] at this
    exact hw w this
  · exact ⟨.givenBack f y, by rw [Yard.givenBack_waits]; exact hw⟩

theorem Yard.dropFromLanes_pool (e : Env) (f : Nat) (y : Yard) : (y.dropFromLanes e f).pool = y.pool := by
  unfold Yard.dropFromLanes
  simp only []
  split
  · have b := Yard.Berths.rerunWaits (kinds := [.berthAssigned]) (by simp) e ((y.unreserveAll f).unclaimAll f)
    rw [← Yard.givenBack_pool f y]
    unfold Yard.pool
    rw [b.fuelPriority, b.fuelOrdinary, b.washQueue]
  · exact Yard.givenBack_pool f y

/-! ### Nothing of another bus changes -/

/-- From `y` to `z` nothing but a berth granted changed for buses other than `f`: records but for their plan wait, entries of the
departure list and of the turn queues; of the plan waits only BERTH went to ENTRY; and only BERTH_ASSIGNED was posted. -/
structure Yard.SparesOthers (f : Nat) (y z : Yard) : Prop where
  bus : ∀ g, g ≠ f →
    (z.bus? g).map (fun b => { b with wait := .noPlan }) = (y.bus? g).map (fun b => { b with wait := .noPlan })
  departure : ∀ g, z.departure? g = y.departure? g
  turn : ∀ g, g ≠ f → z.turn? g = y.turn? g
  wait : y.BerthsGranted z
  tally : ∀ k : NoticeKind, k ≠ .berthAssigned → z.notices.tallies.getD (k.num - 1) 0 = y.notices.tallies.getD (k.num - 1) 0

namespace Yard.SparesOthers

variable {f : Nat}

theorem refl (y : Yard) : y.SparesOthers f y := ⟨fun _ _ => rfl, fun _ => rfl, fun _ _ => rfl, .same rfl, fun _ _ => rfl⟩

theorem trans {x y z : Yard} (h : x.SparesOthers f y) (k : y.SparesOthers f z) : x.SparesOthers f z :=
  ⟨fun g hg => (k.bus g hg).trans (h.bus g hg), fun g => (k.departure g).trans (h.departure g),
    fun g hg => (k.turn g hg).trans (h.turn g hg), h.wait.trans k.wait, fun g hg => (k.tally g hg).trans (h.tally g hg)⟩

theorem same {y z : Yard} (h1 : z.fleet = y.fleet) (h2 : z.departures = y.departures) (h3 : z.pool = y.pool)
    (h4 : z.notices = y.notices) : y.SparesOthers f z :=
  ⟨fun _ _ => by simp [Yard.bus?, h1], fun _ => by simp [Yard.departure?, h2], fun _ _ => by simp [Yard.turn?, h3],
    .same h1, fun _ _ => by rw [h4]⟩

theorem foldl {α : Type} {op : Yard → α → Yard} (h : ∀ (y : Yard) a, y.SparesOthers f (op y a)) :
    ∀ (l : List α) (y : Yard), y.SparesOthers f (l.foldl op y)
  | [], y => .refl y
  | a :: l, y => (h y a).trans (foldl h l (op y a))

theorem berths {y z : Yard} (h : Yard.Berths [.berthAssigned] y z) (w : y.BerthsGranted z) : y.SparesOthers f z :=
  ⟨fun g _ => h.bus g, fun _ => by simp [Yard.departure?, h.departures],
    fun _ _ => by simp [Yard.turn?, Yard.pool, h.fuelPriority, h.fuelOrdinary, h.washQueue],
    w, fun k hk => h.silent k (by simpa using hk)⟩

theorem wantPoint (p : PointId) (o : Order) (y : Yard) : y.SparesOthers f (y.wantPoint p o) := by
  unfold Yard.wantPoint
  repeat' split
  all_goals exact .same rfl rfl rfl rfl

theorem vacatePoint (p : PointId) (g : Point → Point) (y : Yard) : y.SparesOthers f (y.vacatePoint p g) := by
  unfold Yard.vacatePoint
  repeat' split
  all_goals exact .same rfl rfl rfl rfl

theorem updateSign (n : Nat) (y : Yard) : y.SparesOthers f (y.updateSign n) := by
  unfold Yard.updateSign Yard.wantSign
  repeat' split
  all_goals exact .same rfl rfl rfl rfl

theorem clearRelease (n : Nat) (y : Yard) : y.SparesOthers f (y.clearRelease n) :=
  (Yard.SparesOthers.same rfl rfl rfl rfl : y.SparesOthers f (y.setLane n fun l => { l with release := none })).trans
    ((updateSign n _).trans (.same rfl rfl rfl rfl))

theorem releaseClaim (g : Nat) (r : ReleaseReason) (y : Yard) : y.SparesOthers f (y.releaseClaim g r) := by
  unfold Yard.releaseClaim
  split
  · exact clearRelease _ _
  · exact .refl _

theorem dropReservation (n g : Nat) (y : Yard) : y.SparesOthers f (y.dropReservation n g) :=
  (Yard.SparesOthers.same rfl rfl rfl rfl : y.SparesOthers f (y.setLane n _)).trans (updateSign n _)

theorem withdrawCall (p : PointId) (y : Yard) : y.SparesOthers f (y.withdrawCall p) :=
  ((Yard.SparesOthers.same rfl rfl rfl rfl : y.SparesOthers f (y.setPoint p _)).trans (wantPoint _ _ _)).trans
    (vacatePoint _ _ _)

theorem freeTurn (y : Yard) : y.SparesOthers f (y.freeTurn f) :=
  ⟨fun _ _ => rfl, fun _ => rfl, fun k hk => by rw [Yard.turn_freeTurn]; simp [hk], .same rfl, fun _ _ => rfl⟩

theorem dropFromLanes (e : Env) (y : Yard) : y.SparesOthers f (y.dropFromLanes e f) := by
  unfold Yard.dropFromLanes
  simp only []
  have h : y.SparesOthers f ((y.unreserveAll f).unclaimAll f) :=
    (foldl (fun z n => dropReservation n f z) _ _).trans (foldl (fun z n => clearRelease n z) _ _)
  split
  · exact h.trans (berths (.rerunWaits (by simp) _ _) (.rerunWaits _ _))
  · exact h

theorem dropTurn (b : Bus) (y : Yard) : y.SparesOthers b.fleet (y.dropTurn b) := by
  unfold Yard.dropTurn
  refine Yard.SparesOthers.trans ?_ (freeTurn _)
  split
  · unfold Yard.dropCall
    simp only []
    split
    · exact (withdrawCall _ _).trans (releaseClaim _ _ _)
    · exact releaseClaim _ _ _
  · exact .refl _

end Yard.SparesOthers

end Sys2Proof.Machine
end

