-- ==== Sys2Proof/Tests/Slice0.lean ====
section
/-!
SUPPORT. Tests of the model's own: the operand checks, the check of R181, one step each of small states, and for each statement with
hypotheses a state and operands that meet them, clause by clause.
-/
namespace Sys2Proof.Tests

set_option Elab.async false

open Sys2Proof Sys2Proof.Machine

/-! ### A small yard -/

/-- Lane 1 THROUGH with gas, lane 2 BLIND without, island 1, wash lane 1, and their stations beside the gate. -/
def lay : Layout :=
  { lanes :=
      [{ number := 1, kind := .through, capacity := 4, gas := true, station := 2 },
       { number := 2, kind := .blind, capacity := 2, gas := false, station := 3 }]
    points :=
      [{ id := .island 1, station := 4, offers := some .both }, { id := .wash 1, station := 5, offers := none }]
    stations :=
      [{ address := 1, kind := .gate }, { address := 2, kind := .loop }, { address := 3, kind := .loop },
       { address := 4, kind := .island }, { address := 5, kind := .wash }] }

/-- The yard taken into service, RESET_DONE sent. -/
def base : State :=
  let s := ({ State.reset with layout := lay } : State).intoService
  { s with
    link := { s.link with awaitResetDone := false }
    yard := { s.yard with cmdQueue := [], notices := { s.yard.notices with queue := [] } } }

/-- A bus with a position and a plan wait. -/
def bus (f : Nat) (position : Position) (wait : PlanWait) : Bus :=
  { fleet := f, fuelKind := .diesel, length := .standard, routeClass := 3, homePlan := none, fuelWanted := true
    washWanted := true, position, wait, cursor := some 5, stack := [], repeatCount := none, fault := none
    shuntMarker := none, age := 8, missedCalls := 0, residue := 0, fuelTaken := 0, holdTimer := none }

/-- A state whose yard is changed. -/
def on (g : Yard → Yard) (s : State) : State := { s with yard := g s.yard }

/-- The request stands oldest WAITING, the replies are gone. -/
def asked (body : List Byte) (s : State) : State :=
  { s with link := { s.link with requests := [{ body, answered := false }], replies := [] } }

/-- The result code of the one reply. -/
def codeOf : Host.Outcome State Fault Refusal → Option Nat
  | .next s => s.link.replies.head?.map (fun r => (r.body.getD 2 0).toNat)
  | .fault _ => none
  | .refused _ => none

/-- The state of a next outcome looked at. -/
def seen {α : Type} (g : State → α) : Host.Outcome State Fault Refusal → Option α
  | .next s => some (g s)
  | .fault _ => none
  | .refused _ => none

/-- The result code of a request taken by a row. -/
def reply (c : Instr) (body : List Byte) (s : State) : Option Nat := codeOf (exec c (asked body s))

/-- What the yard shows after a request taken by a row. -/
def after {α : Type} (g : Yard → α) (c : Instr) (body : List Byte) (s : State) : Option α :=
  seen (fun t => g t.yard) (exec c (asked body s))

/-- What the yard shows after an event. -/
def shown {α : Type} (g : Yard → α) (c : Instr) (s : State) : Option α := seen (fun t => g t.yard) (exec c s)

/-- What a test looks at in a notice. -/
structure Post where
  kind : NoticeKind
  fleet : Nat
  code : Nat
  quantity : Nat
deriving DecidableEq, Repr

/-- The notices a yard holds queued. -/
def posted (y : Yard) : List Post := y.notices.queue.map (fun n => ⟨n.kind, n.fleet, n.code, n.quantity⟩)

/-- What the owner of a place makes of a report. -/
def told (place : Option Place) (r : Report) (s : State) : Yard := s.yard.ownerReport s.env place r

/-- A report. -/
def report (kind : ReportKind) (fleet quantity : Nat) : Report :=
  { turn := false, more := false, kind, fleet, quantity, mask := 0 }

/-- A request asked of a part that may take it is waiting there: the hypothesis `Takes` of every statement on requests. -/
theorem witness_asked (body : List Byte) (s : State) (h1 : s.rstnLow = false) (h2 : s.link.awaitResetDone = false) :
    (asked body s).Takes body := by
  simp [asked, State.Takes, State.front?, Link.waiting?, h1, h2]

/-- The small yard may take requests, in either mode. -/
theorem witness_base : base.rstnLow = false ∧ base.link.awaitResetDone = false ∧ base.mode = .running := by decide +kernel

/-! ### Operand checks -/

theorem test_hostFrame_empty_refused : Instr.wellFormed (.hostFrame []) = false := by decide
theorem test_hostFrame_long_refused : Instr.wellFormed (.hostFrame (List.replicate 245 0#8)) = false := by decide +kernel
theorem test_frameError_nothing_refused : Instr.wellFormed (.frameError [] false) = false := by decide
theorem test_frameError_long_refused : Instr.wellFormed (.frameError (List.replicate 245 0#8) true) = false := by
  decide +kernel
theorem test_gap_long_refused : Instr.wellFormed (.characterGapTimeout (List.replicate 245 0#8)) = false := by decide +kernel
theorem test_holdExpiry_range_refused :
    Instr.wellFormed (.holdExpiry 0) = false ∧ Instr.wellFormed (.holdExpiry 10000) = false := by decide
theorem test_entryTimer_range_refused :
    Instr.wellFormed (.entryTimerExpiry 0) = false ∧ Instr.wellFormed (.entryTimerExpiry 10000) = false := by decide
theorem test_releaseLapse_range_refused :
    Instr.wellFormed (.releaseLapseExpiry 0) = false ∧ Instr.wellFormed (.releaseLapseExpiry 10000) = false := by decide
theorem test_callTimer_range_refused :
    Instr.wellFormed (.callTimerExpiry (.island 5)) = false ∧ Instr.wellFormed (.callTimerExpiry (.wash 3)) = false := by
  decide
theorem test_islands_range_refused :
    Instr.wellFormed (.islandSelection 0) = false ∧ Instr.wellFormed (.islandSelection 5) = false ∧
      Instr.wellFormed (.islandRecoveryExpiry 0) = false ∧ Instr.wellFormed (.islandRecoveryExpiry 5) = false := by decide
theorem test_washes_range_refused :
    Instr.wellFormed (.washSelection 0) = false ∧ Instr.wellFormed (.washSelection 3) = false ∧
      Instr.wellFormed (.washRecoveryExpiry 0) = false ∧ Instr.wellFormed (.washRecoveryExpiry 3) = false := by decide
theorem test_windows_begun_refused :
    Instr.wellFormed (.roundPollAnswer (.answer [] true)) = false ∧
      Instr.wellFormed (.commandAnswer (.answer [] true)) = false ∧
      Instr.wellFormed (.askAnswer (.answer [] true)) = false := by decide

/-! ### The check, the reset, the link -/

/-- R181's check over the nine digits. -/
theorem test_crc : crc16 [0x31#8, 0x32#8, 0x33#8, 0x34#8, 0x35#8, 0x36#8, 0x37#8, 0x38#8, 0x39#8] = 0x29B1#16 := by
  decide +kernel

theorem test_commit_sound : lay.commitFailure = none := by decide +kernel
theorem test_reset_mode : State.reset.mode = .unconfigured ∧ State.reset.env.clock = 0 := by decide

/-- An ECHO arrives, is taken, and its reply begins. -/
theorem test_echo :
    reply .echo (request 0x3F 7#8 [1#8, 2#8]) base = some 0 ∧
      seen (fun s => s.link.replies.map WaitingReply.body) (exec .echo (asked (request 0x3F 7#8 [1#8, 2#8]) base)) =
        some [[0xBF#8, 7#8, 0#8, 1#8, 2#8]] := by decide +kernel

theorem test_unknown_kind : reply .unknownKind [0x0F#8, 1#8] base = some 1 := by decide +kernel

/-! ### Witnesses: steps, resets, the host link -/

/-- A request body of small numbers. -/
def rq (kind : Nat) (fields : List Nat) : List Byte := request kind 7#8 (fields.map (BitVec.ofNat 8))

/-- The result code of a request of small numbers. -/
def res (c : Instr) (kind : Nat) (fields : List Nat) (s : State) : Option Nat := reply c (rq kind fields) s

/-- The small yard's definitions before they are committed. -/
def un : State := { base with mode := .unconfigured }

/-- Entries of the request queue and BUSY replies waiting. -/
def loaded (requests busy : Nat) : State :=
  { base with
    link :=
      { base.link with
        requests := List.replicate requests { body := [0x3F#8, 1#8], answered := false }
        replies := List.replicate busy { body := [0xBF#8, 1#8, 9#8], busy := true } } }

theorem witness_StepTakesTheFrontCommand :
    ({ base with pending := [.frameSent, .lineGrant] } : State).pending = .frameSent :: [.lineGrant] ∧
      base.pending = [] ∧ (un.line.frameEnds = un.line) ∧
      seen (fun s => (s.line.ylde, s.line.phase, s.line.frame.length))
        (step { base with line := base.line.exchange .round (roundStartFields .urgent) }) = some (false, .window, 5) := by
  decide +kernel

theorem witness_PinReset :
    ({ base with rstnLow := true } : State).rstnLow = true ∧ Instr.echo ≠ .pinReset ∧ Instr.echo ≠ .pinResetAssert := by
  decide +kernel

/-- RSTN low keeps the asks, the framer inside a frame and the frame error tally. -/
theorem test_pinReset_keeps :
    let inside : State :=
      { base with
        link := { base.link with framer := .length, frameErrors := 7, sending := some [1#8] }
        line := { base.line with asks := [{ tag := 9#8, address := 63, op := .read, item := 1, value := 0 }] } }
    seen (fun s => (s.line.asks.length, s.link.framer, s.link.frameErrors, s.link.sending)) (exec .pinResetAssert inside) =
      some (1, .length, 7, none) := by decide +kernel

/-- Bodies of 2 and 240 bytes; room for the request, room for a BUSY reply, and neither. -/
theorem witness_HostFrameDelivered :
    base.rstnLow = false ∧ base.link.framer = .hunt ∧
      (∀ n ∈ [2, 240], 2 ≤ (List.replicate n 1#8).length ∧ (List.replicate n 1#8).length ≤ 240) ∧
      (∀ x ∈ [(3, 8, 4, 8, 0), (4, 7, 4, 8, 0), (4, 8, 4, 8, 1)],
        seen (fun s => (s.link.requests.length, s.link.replies.length, s.link.frameErrors))
          (exec (.hostFrame (hostFrameOf [0x3F#8, 1#8])) (loaded x.1 x.2.1)) = some x.2.2) := by decide +kernel

/-- Inside and outside a frame; lengths 1, 241; a check that does not agree. -/
theorem witness_FrameErrors :
    ({ base with link := { base.link with framer := .length } } : State).link.framer ≠ .hunt ∧
      (∀ n ∈ [1#8, 241#8],
        seen (fun s => s.link.frameErrors) (exec (.frameError [0xA5#8, n] false) base) = some 1) ∧
      [0#8, 0#8] ≠ crcBytes (crc16 [2#8, 1#8, 1#8]) ∧
      0xA5#8 ∉ [0#8, 2#8] ∧ 1 < (hostFrameOf [1#8, 1#8]).length ∧
      (∀ x ∈ [([], 0), ([2#8, 1#8], 0), ([0xA5#8], 1), ([0xA5#8, 2#8, 1#8, 1#8, 0#8], 1), (hostFrameOf [1#8, 1#8], 0),
          ([0xA5#8, 1#8], 1)],
        seen (fun s => s.link.frameErrors) (exec (.characterGapTimeout x.1) base) = some x.2 ∧
        seen (fun s => s.link.frameErrors) (exec (.frameError x.1 true) base) = some x.2) ∧
      seen (fun s => s.link.frameErrors) (exec (.frameError [0xA5#8, 2#8, 1#8, 1#8, 0#8, 0#8] false) base) =
        some 1 := by decide +kernel

/-- A reply and a notice waiting, the transmitter idle and busy, before RESET_DONE and after. -/
theorem witness_TransmitterOrder :
    (loaded 0 1).link.sending = none ∧ (loaded 0 1).link.replies ≠ [] ∧ (loaded 0 1).link.awaitResetDone = false ∧
      ({ base with link := { base.link with sending := some [] } } : State).link.sending.isSome ∧
      State.reset.link.awaitResetDone = true ∧ State.reset.yard.notices.queue ≠ [] ∧ base.yard.notices.queue = [] ∧
      base.link.replies = [] := by decide +kernel

/-- Table 11-5: SWAPPED of bus 300 for bus 9 at 01:02:03, in lane 2, route class 3. -/
theorem test_noticeBytes :
    ({ kind := .swapped, cls := 2, lost := 1, time := 3723, fleet := 300, place := some (.lane 2), code := 3, quantity := 9 } :
      Notice).body = [64, 0, 32, 2, 1, 0, 14, 139, 1, 44, 1, 2, 3, 0, 9] := by decide +kernel

/-- The oldest WAITING entry is taken and becomes ANSWERED; with none WAITING, and before RESET_DONE, nothing is taken. -/
theorem test_oldest_waiting :
    (let answered : RequestEntry := { body := rq 0x3F [7], answered := true }
     let waiting (b : Nat) : RequestEntry := { body := rq 0x3F [b], answered := false }
     let queue (requests : List RequestEntry) (await : Bool) : State :=
       { base with link := { base.link with requests, awaitResetDone := await } }
     let shows (s : State) : List Bool × List (Option Byte) :=
       (s.link.requests.map RequestEntry.answered, s.link.replies.map (fun r => r.body[3]?))
     seen shows (exec .echo (queue [answered, waiting 8, waiting 9] false)) = some ([true, true, false], [some 8#8]) ∧
      seen shows (exec .echo (queue [answered] false)) = some ([true], []) ∧
      seen shows (exec .echo (queue [waiting 8] true)) = some ([false], [])) := by decide +kernel

/-- An OK reply is one more reply and keeps the request; another request's row does nothing. -/
theorem witness_EveryTakenRequestGetsOneReply :
    seen (fun s => (s.link.replies.length, s.link.requests.length)) (exec .echo (asked (rq 0x3F [1]) base)) = some (1, 1) ∧
      seen (fun s => (s.link.replies.length, s.link.requests.length)) (exec .laneHold (asked (rq 0x3F [1]) base)) =
        some (0, 1) := by decide +kernel

/-- A row answers BAD_LENGTH to two fields as given and more fields of zero. -/
def badLength (c : Instr) (kind : Nat) (first count rest : Nat) : Bool :=
  res c kind ([first, count] ++ List.replicate rest 0) base == some 2

/-- A fixed length and its neighbours; both layouts of a kind with a form, and a form of neither; a list at its least and greatest count. -/
theorem witness_StagesOfTaking_lengths :
    [0, 1, 2].map (badLength .clockSet 0x06 0 0) = [true, false, true] ∧
      [0, 1, 4, 5].map (badLength .laneDefine 0x01 0 1) = [true, true, false, true] ∧
      [0, 1, 4].map (badLength .laneDefineRemove 0x01 1 1) = [false, true, true] ∧
      [0, 1, 4].map (badLength .laneDefine 0x01 2 1) = [false, true, false] ∧
      [1, 16, 17].map (fun n => res .planWrite 0x18 ([0, 0, n] ++ List.replicate (6 * n) 0) base) =
        [some 0, some 0, some 2] ∧
      res .planWrite 0x18 [0, 0, 0] base = some 2 ∧ res .planWrite 0x18 ([0, 0, 2] ++ List.replicate 6 0) base = some 2 := by
  decide +kernel

theorem witness_StagesOfTaking :
    0x0F ∉ requestKinds ∧ laneHoldRequest.takes (rq 0x29 []) = true ∧ laneHoldRequest.length (rq 0x29 []) = false ∧
      res .laneHold 0x29 [] base = some 2 ∧ laneHoldRequest.length (rq 0x29 [1]) = true ∧
      res .laneHold 0x29 [1] un = some 4 ∧ res .layoutCommit 0x04 [] base = some 4 := by decide +kernel

theorem witness_EchoReturnsItsData :
    reply .echo (request 0x3F 7#8 (List.replicate 237 1#8)) base = some 0 ∧
      reply .echo (request 0x3F 7#8 (List.replicate 238 1#8)) base = some 2 := by decide +kernel

/-! ### Witnesses: layout, parameters, clock -/

/-- Both ends of every range, a value past each, and the removals. -/
theorem witness_LaneDefinitions :
    un.mode = .unconfigured ∧
      (∀ b ∈ [[0, 1, 0, 2, 0, 1], [0, 24, 1, 12, 1, 63]], res .laneDefine 0x01 b un = some 0) ∧
      (∀ b ∈ [[0, 0, 0, 2, 0, 1], [0, 25, 0, 2, 0, 1], [0, 1, 2, 2, 0, 1], [0, 1, 0, 1, 0, 1], [0, 1, 0, 13, 0, 1],
          [0, 1, 0, 2, 2, 1], [0, 1, 0, 2, 0, 0], [0, 1, 0, 2, 0, 64], [2, 1, 0, 2, 0, 1], [2, 1]],
        res .laneDefine 0x01 b un = some 3) ∧
      res .laneDefineRemove 0x01 [1, 2] un = some 0 ∧ res .laneDefineRemove 0x01 [1, 24] un = some 6 ∧
      res .laneDefineRemove 0x01 [1, 25] un = some 3 := by decide +kernel

theorem witness_PointDefinitions :
    (∀ b ∈ [[0, 2, 1, 0, 1], [0, 2, 4, 2, 63], [0, 3, 1, 255, 1], [0, 3, 2, 255, 63]],
      res .pointDefine 0x02 b un = some 0) ∧
      (∀ b ∈ [[0, 2, 0, 0, 1], [0, 2, 5, 0, 1], [0, 3, 3, 255, 1], [0, 2, 1, 3, 1], [0, 3, 1, 0, 1], [0, 1, 1, 0, 1],
          [0, 2, 1, 0, 0], [0, 2, 1, 0, 64], [2, 2, 1, 0, 1], [2, 2, 1]],
        res .pointDefine 0x02 b un = some 3) ∧
      res .pointDefineRemove 0x02 [1, 2, 1] un = some 0 ∧ res .pointDefineRemove 0x02 [1, 2, 4] un = some 6 ∧
      res .pointDefineRemove 0x02 [1, 2, 5] un = some 3 := by decide +kernel

theorem witness_StationDefinitions :
    lay.stations.map StationDef.address = [1, 2, 3, 4, 5] ∧
      (∀ b ∈ [[0, 1, 1], [0, 6, 2], [0, 63, 3], [0, 6, 4]], res .stationDefine 0x03 b un = some 0) ∧
      res .stationDefine 0x03 [0, 6, 1] un = some 8 ∧
      (∀ b ∈ [[0, 0, 1], [0, 64, 1], [0, 6, 0], [0, 6, 5], [2, 6, 1], [2, 6]], res .stationDefine 0x03 b un = some 3) ∧
      res .stationDefineRemove 0x03 [1, 5] un = some 0 ∧ res .stationDefineRemove 0x03 [1, 63] un = some 6 ∧
      res .stationDefineRemove 0x03 [1, 64] un = some 3 := by decide +kernel

/-- A layout that fails each check of Table 1-4 in its turn, and the one that passes. -/
theorem witness_CommitRefused :
    (({ lay with stations := [] } : Layout).commitFailure.map CommitFailure.code = some 1) ∧
      (({ lay with stations := [{ address := 1, kind := .gate }] } : Layout).commitFailure =
        some { code := 2, kind := 1, number := 1 }) ∧
      (({ lay with lanes := [{ number := 1, kind := .through, capacity := 4, gas := true, station := 4 }] } :
        Layout).commitFailure = some { code := 3, kind := 1, number := 1 }) ∧
      (({ lay with
          lanes :=
            [{ number := 1, kind := .through, capacity := 4, gas := true, station := 2 },
             { number := 2, kind := .blind, capacity := 2, gas := false, station := 2 }] } : Layout).commitFailure =
        some { code := 4, kind := 4, number := 2 }) ∧
      (({ lay with lanes := [{ number := 1, kind := .through, capacity := 4, gas := true, station := 2 }] } :
        Layout).commitFailure = some { code := 5, kind := 4, number := 3 }) ∧
      (({ lay with
          lanes :=
            [{ number := 1, kind := .through, capacity := 190, gas := true, station := 2 },
             { number := 2, kind := .blind, capacity := 3, gas := false, station := 3 }] } : Layout).commitFailure =
        some { code := 6, kind := 0, number := 0 }) := by decide +kernel

theorem witness_CommitIntoService :
    res .layoutCommit 0x04 [] un = some 0 ∧
      seen (fun s => (s.mode, s.yard.cmdQueue.length, s.rounds.urgentTimer)) (exec .layoutCommit (asked (rq 0x04 []) un)) =
        some (.running, 4, some 250) ∧
      (un.runl, base.runl, ({ base with rstnLow := true } : State).runl) = (false, true, false) := by decide +kernel

/-- One pair and thirteen; the ends of a range; a number given twice, an unknown one, an interval not in the list. -/
theorem witness_ParametersSet :
    res .timingSet 0x05 [1, 1, 0, 30] base = some 0 ∧ res .timingSet 0x05 [1, 1, 0, 31] base = some 3 ∧
      res .timingSet 0x05
        [13, 1, 0, 1, 2, 0, 1, 3, 0, 1, 4, 0, 15, 5, 0, 0, 6, 0, 0, 7, 5, 159, 8, 0, 1, 9, 0, 16, 10, 0, 15, 11, 0, 10,
         12, 0, 100, 13, 0, 10] base = some 0 ∧
      res .timingSet 0x05 [2, 1, 0, 1, 1, 0, 1] base = some 3 ∧ res .timingSet 0x05 [1, 14, 0, 1] base = some 3 ∧
      res .timingSet 0x05 [1, 9, 0, 3] base = some 3 := by decide +kernel

theorem witness_ClockSetAndAdvanced :
    res .clockSet 0x06 [1, 81, 127] base = some 0 ∧ res .clockSet 0x06 [1, 81, 128] base = some 3 ∧
      seen (fun s => s.env.clock) (exec .clockAdvance base) = some 1 := by decide +kernel

/-- The last second, with an entry that stays and one that is missed. -/
def lastSecond : State :=
  { base with
    env := { base.env with clock := 86399 }
    yard :=
      { base.yard with
        fleet := [bus 11 (.inLane 1) .ended, bus 12 (.inLane 1) .ended]
        departures :=
          [{ slot := 5, bus := 11, state := .released, mark := 1, noticeSent := false, lapse := some 60 },
           { slot := 6, bus := 12, state := .waiting, mark := 2, noticeSent := false, lapse := none }] } }

theorem witness_DayRollover :
    lastSecond.env.clock = 86399 ∧ (lastSecond.yard.departures.map Departure.bus) = [11, 12] ∧
      shown (fun y => (y.departures.map Departure.bus, y.notices.tallies.getD 36 0)) .dayRollover lastSecond =
        some ([11], 1) ∧
      base.env.clock < 86399 := by decide +kernel

/-- The new day's missed entry re-runs the berth wait list: a bus in BERTH goes to ENTRY. -/
theorem test_newDay_grants_berth :
    shown (fun y => ((y.bus? 17).map Bus.wait, y.waits)) .dayRollover
      (on (fun y =>
        { y with fleet := y.fleet ++ [bus 17 .loose .berth], waits := [{ bus := 17, lane := none, lapses := 0 }] }) lastSecond) =
      some (some .entry, []) := by decide +kernel

/-- The small yard's lanes and points stand in their order. -/
theorem witness_rising : lay.lanesRising ∧ lay.pointsRising := by
  refine ⟨by unfold Layout.lanesRising LanesRising; decide +kernel, ?_, by decide +kernel⟩
  simp [lay, PointId.Before]

/-- The state of the rollover's witness is within the bounds it asks for. -/
theorem witness_DayRollover_bounds : lastSecond.yard.Bounded lastSecond.env.params := by
  refine ⟨by decide +kernel, by decide +kernel, ?_, by decide +kernel, ?_, ?_, by decide +kernel, by decide +kernel,
    witness_rising.1, witness_rising.2, by decide +kernel⟩
  · intro b hb
    have h : b = bus 11 (.inLane 1) .ended ∨ b = bus 12 (.inLane 1) .ended := by simpa [lastSecond] using hb
    rcases h with rfl | rfl <;> exact ⟨by decide +kernel, by decide +kernel, by decide +kernel⟩
  · unfold Notices.InForm; decide +kernel
  · show List.Pairwise _ [_, _]
    simp [Departure.Before]

/-! ### Witnesses: the fleet and its plans -/

/-- Buses of every kind the checks tell apart. -/
def manned : State :=
  on (fun y =>
    { y with
      fleet :=
        [bus 10 .loose .noPlan, bus 11 (.inLane 1) .ended, bus 12 (.inLane 1) .ended, bus 13 .loose .turn,
         bus 14 (.inLane 2) .called, bus 15 (.atPoint (.wash 1)) .serving, bus 16 .loose .hold, bus 17 .loose .berth,
         bus 18 .loose .entry, bus 19 .loose .stalled, bus 20 .outside .faulted]
      fuelOrdinary :=
        [{ bus := 13, time := 0, request := .fuel .diesel, skip := 255, status := .waiting },
         { bus := 14, time := 0, request := .fuel .diesel, skip := 0, status := .called (.island 1) }]
      washQueue := [{ bus := 15, time := 0, request := .wash 2 3, skip := 0, status := .serving (.wash 1) }]
      waits := [{ bus := 17, lane := none, lapses := 0 }]
      points :=
        y.points.map (fun q =>
          if q.id = .island 1 then { q with state := .calling, bus := some 14, callTimer := some 1 }
          else { q with state := .serving, bus := some 15, program := some 2, passesLeft := 2 })
      lanes :=
        y.lanes.map (fun l =>
          if l.number = 1 then
            { l with
              occupants := [11, 12]
              reservations := [{ bus := 18, places := 1, kind := .park, entryTimer := some 0, lapses := 0 }] }
          else { l with occupants := [14], release := some (14, .call) }) }) base

theorem witness_YardReset : res .yardReset 0x08 [] manned = some 0 := by decide +kernel
theorem witness_StatusQueried : res .statusQuery 0x07 [] manned = some 0 ∧ res .statusQuery 0x07 [] un = some 0 := by
  decide +kernel

theorem witness_TurnsQueried :
    (∀ b ∈ [[0, 1, 0], [0, 3, 47]], res .turnQueryQueue 0x20 b manned = some 0) ∧
      (∀ b ∈ [[0, 0, 0], [0, 4, 0], [0, 1, 48], [2, 1, 0], [2]], res .turnQueryQueue 0x20 b manned = some 3) ∧
      res .turnQueryPoints 0x20 [1] manned = some 0 := by decide +kernel

theorem witness_LanesQueried :
    res .laneQueryLane 0x28 [0, 1] manned = some 0 ∧ res .laneQueryLane 0x28 [0, 24] manned = some 6 ∧
      res .laneQueryLane 0x28 [0, 25] manned = some 3 ∧ res .laneQueryLane 0x28 [0, 0] manned = some 3 ∧
      res .laneQueryLane 0x28 [2, 1] manned = some 3 ∧ res .laneQueryWaits 0x28 [1, 191] manned = some 0 ∧
      res .laneQueryWaits 0x28 [1, 192] manned = some 3 := by decide +kernel

theorem witness_DeparturesAndStationsQueried :
    res .departQuery 0x35 [191] lastSecond = some 0 ∧ res .departQuery 0x35 [192] lastSecond = some 3 ∧
      res .stationQuery 0x3A [1] base = some 0 ∧ res .stationQuery 0x3A [63] un = some 0 ∧
      res .stationQuery 0x3A [0] base = some 3 ∧ res .stationQuery 0x3A [64] base = some 3 := by decide +kernel

/-- A fleet table in full use. -/
def full : State := on (fun y => { y with fleet := (List.range 192).map (fun i => bus (i + 1) .loose .noPlan) }) base

theorem witness_BusEnrolled :
    res .busEnrol 0x10 [0, 1, 0, 0, 0, 255, 255] base = some 0 ∧ res .busEnrol 0x10 [39, 15, 1, 1, 15, 1, 255] base = some 0 ∧
      (∀ b ∈ [[0, 0, 0, 0, 0, 0, 0], [39, 16, 0, 0, 0, 0, 0], [0, 1, 2, 0, 0, 0, 0], [0, 1, 0, 2, 0, 0, 0],
          [0, 1, 0, 0, 16, 0, 0], [0, 1, 0, 0, 0, 2, 0]],
        res .busEnrol 0x10 b base = some 3) ∧
      res .busEnrol 0x10 [0, 10, 0, 0, 0, 0, 0] manned = some 7 ∧ full.yard.fleet.length = 192 ∧
      res .busEnrol 0x10 [0, 193, 0, 0, 0, 0, 0] full = some 8 := by decide +kernel

theorem witness_BusFieldsSet :
    res .busSet 0x11 [0, 10, 1, 2, 1, 255] manned = some 0 ∧
      res .busSet 0x11 [0, 10, 6, 0, 0, 1, 1, 0, 0, 2, 255, 255, 3, 0, 15, 4, 0, 1, 5, 0, 1] manned = some 0 ∧
      (∀ b ∈ [[0, 10, 1, 6, 0, 0], [0, 10, 1, 3, 0, 16], [0, 10, 1, 2, 2, 0], [0, 10, 2, 0, 0, 1, 0, 0, 1]],
        res .busSet 0x11 b manned = some 3) ∧
      res .busSet 0x11 [0, 9, 1, 0, 0, 1] manned = some 6 ∧ res .busSet 0x11 [0, 13, 1, 4, 0, 1] manned = some 5 ∧
      res .busSet 0x11 [0, 13, 1, 0, 0, 1] manned = some 0 := by decide +kernel

theorem witness_FleetQueried :
    res .busQueryRecord 0x12 [0, 0, 10] manned = some 0 ∧ res .busQueryRecord 0x12 [0, 0, 9] manned = some 6 ∧
      res .busQueryRecord 0x12 [0, 0, 0] manned = some 3 ∧ res .busQueryList 0x12 [1, 0, 1] full = some 0 ∧
      res .busQueryList 0x12 [1, 39, 16] full = some 3 ∧
      (∀ form ∈ [2, 255], res .busQueryRecord 0x12 [form, 0, 10] manned = some 3) := by decide +kernel

theorem witness_BusWithdrawn :
    (∀ f ∈ [10, 13, 16, 17, 18, 20], res .busWithdraw 0x13 [0, f] manned = some 0) ∧
      (∀ f ∈ [11, 14, 15], res .busWithdraw 0x13 [0, f] manned = some 5) ∧
      res .busWithdraw 0x13 [0, 9] manned = some 6 ∧ res .busWithdraw 0x13 [0, 0] manned = some 3 := by decide +kernel

/-- A bus with a reservation withdrawn: its place goes to the bus that waits. -/
theorem test_withdrawn_reservation :
    after (fun y => (y.lanes.map (fun l => l.reservations.map Reservation.bus), (y.bus? 18).isSome)) .busWithdraw
      (rq 0x13 [0, 18]) manned = some ([[17], []], false) := by decide +kernel

/-- "Berth granted" takes BERTH to ENTRY and is discarded in any other plan wait (R49). -/
theorem test_berthGranted :
    (∀ w ∈ [PlanWait.berth, .hold, .noPlan],
      after (fun y => (y.bus? 17).map Bus.wait) .busWithdraw (rq 0x13 [0, 18]) (on (Yard.setWait 17 w) manned) =
        some (some (if w = .berth then .entry else w))) := by decide +kernel

theorem witness_StepRecordsRoundTrip :
    (Step.wash 1).InRange ∧ (Step.wash 4).InRange ∧ (Step.park (some 24)).InRange ∧ (Step.hold 120).InRange ∧
      (Step.rep 15).InRange ∧ (Step.test (.slotBefore 1439) 511).InRange ∧ (Step.note 255).InRange := by
  simp [Step.InRange]

/-- Records of Table 11-11 at the bounds of their fields. -/
theorem test_step_records :
    slotBytes (some (.test (.slotBefore 1439) 511)) = [6, 5, 1, 255, 5, 159] ∧
      slotBytes (some (.park none)) = [3, 0, 0, 0, 0, 0] ∧ slotBytes (some (.park (some 24))) = [3, 24, 0, 0, 0, 0] ∧
      stepOf [7, 0, 1, 255, 0, 0] = some (some (.jump 511)) ∧ stepOf [8, 0, 1, 0, 0, 0] = some (some (.call 256)) ∧
      stepOf [11, 0, 0, 0, 0, 0] = some (some (.finish true)) ∧ stepOf [6, 4, 0, 1, 0, 0] = some (some (.test .hasSlot 1)) := by
  decide +kernel

/-- One record and sixteen, up to the last slot and past it; a record out of range. -/
theorem witness_PlanWritten :
    res .planWrite 0x18 ([1, 255, 1] ++ [11, 1, 0, 0, 0, 0]) base = some 0 ∧
      res .planWrite 0x18 ([1, 240, 16] ++ (List.replicate 16 [9, 0, 0, 0, 0, 0]).flatten) base = some 0 ∧
      res .planWrite 0x18 ([1, 241, 16] ++ (List.replicate 16 [9, 0, 0, 0, 0, 0]).flatten) base = some 3 ∧
      res .planWrite 0x18 ([0, 0, 1] ++ [2, 5, 0, 0, 0, 0]) base = some 3 ∧ base.env.plan.wf = true := by decide +kernel

theorem witness_PlanRead :
    res .planRead 0x19 [1, 240, 16] base = some 0 ∧ res .planRead 0x19 [1, 255, 1] base = some 0 ∧
      (∀ b ∈ [[1, 241, 16], [2, 0, 1], [0, 0, 0], [0, 0, 17]], res .planRead 0x19 b base = some 3) := by decide +kernel

theorem witness_PlansStartedAndResumed :
    res .planStart 0x1A [0, 10, 1, 255] manned = some 0 ∧ res .planStart 0x1A [0, 10, 2, 0] manned = some 3 ∧
      res .planStart 0x1A [0, 9, 0, 0] manned = some 6 ∧ res .planStart 0x1A [0, 13, 0, 0] manned = some 5 ∧
      res .planResume 0x1B [0, 19] manned = some 0 ∧ res .planResume 0x1B [0, 10] manned = some 5 ∧
      res .planResume 0x1B [0, 9] manned = some 6 ∧ res .planResume 0x1B [0, 0] manned = some 3 := by decide +kernel

/-- A plan with every step the advance tells apart. -/
def plan : PlanStore :=
  [(0, .fuel), (1, .wash 1), (2, .park none), (3, .park (some 1)), (4, .hold 120), (5, .rep 0), (6, .test .residue 511),
   (7, .jump 0), (8, .call 9), (9, .ret), (10, .note 255), (11, .finish true), (511, .call 0)]

/-- The plan written. -/
def planned (s : State) : State := { s with env := { s.env with plan } }

/-- Where an advance of bus 10 at an address leaves it: plan wait, cause and cursor. -/
def advanced (a : Nat) (g : Bus → Bus) : Option (PlanWait × Option FaultCause × Option Nat) :=
  let s := planned (on (Yard.setBus 10 g) manned)
  ((s.yard.advanceSteps s.env 10 16 none a).bus? 10).map (fun b => (b.wait, b.fault, b.cursor))

/-- Sixteen steps, the last the one at 511: RUNAWAY at 512, check 1 before check 2 (log 13). Fifteen: RANGE at 511. -/
theorem test_runaway_past_the_store :
    (let notes : PlanStore := (List.range 16).map (fun i => (496 + i, Step.note 0))
     let e : Env := { base.env with plan := notes }
     let ends (a : Nat) : Option (Option FaultCause × Option Nat) :=
       ((manned.yard.advance e 10 a).bus? 10).map (fun b => (b.fault, b.cursor))
     ends 496 = some (some .runaway, some 512) ∧ ends 497 = some (some .range, some 511)) := by decide +kernel

/-- Addresses at both sides of 511, an EMPTY slot, a count before a step that takes none; the chain limit at both sides. -/
theorem witness_AdvanceChecks :
    advanced 512 id = some (.faulted, some .range, some 511) ∧ advanced 12 id = some (.faulted, some .emptyStep, some 12) ∧
      advanced 0 (fun b => { b with repeatCount := some 16 }) = some (.faulted, some .badRepeat, some 0) ∧
      plan.read 511 = some (.call 0) ∧
      (∀ a ∈ [511, 512],
        ((manned.yard.advanceSteps manned.env 10 0 none a).bus? 10).map (fun b => (b.fault, b.cursor)) =
          some (some .runaway, some a)) := by
  decide +kernel

theorem witness_ImmediateSteps :
    [5, 6, 7, 8, 9, 10, 11].map plan.read =
        [some (.rep 0), some (.test .residue 511), some (.jump 0), some (.call 9), some .ret, some (.note 255),
         some (.finish true)] ∧
      advanced 511 id = some (.faulted, some .range, some 511) ∧
      advanced 8 (fun b => { b with stack := [1, 2] }) = some (.faulted, some .stackFull, some 8) ∧
      advanced 9 id = some (.faulted, some .stackEmpty, some 9) ∧ advanced 11 id = some (.ended, none, some 11) := by
  decide +kernel

theorem witness_WaitingSteps :
    advanced 0 id = some (.turn, none, some 0) ∧
      advanced 1 (fun b => { b with repeatCount := some 16 }) = some (.turn, none, some 1) ∧
      advanced 4 (fun b => { b with repeatCount := some 16 }) = some (.hold, none, some 4) ∧ manned.yard.poolUsed = 3 := by
  decide +kernel

theorem witness_PlanAborted :
    (∀ f ∈ [10, 13, 14, 15, 16, 17, 18, 19, 20],
      res .planAbort 0x1C [0, f] manned = some 0 ∧
        after (fun y => (y.bus? f).map Bus.wait) .planAbort (rq 0x1C [0, f]) manned = some (some .noPlan)) ∧
      res .planAbort 0x1C [0, 9] manned = some 6 ∧ res .planAbort 0x1C [0, 0] manned = some 3 ∧
      (manned.yard.callingPoint? 14).map Point.id = some (.island 1) ∧
      (manned.yard.reservation? 18).map Prod.fst = some 1 := by decide +kernel

/-! ### Witnesses: turns, islands, wash lanes -/

/-- One point in a state. -/
def pointIn (p : PointId) (state : PointState) (s : State) : State := on (Yard.setPoint p (fun q => { q with state })) s

/-- A station in a state. -/
def stationIn (a : Nat) (state : StationState) (s : State) : State := on (Yard.setStation a (fun t => { t with state })) s

/-- Each state of Tables 4-2 and 5-1, the station LOST or not, close pending on or off. -/
theorem witness_PointsClosedAndOpened :
    (∀ b ∈ [[2, 1], [3, 1]], ∀ st ∈ [PointState.free, .occupied, .serving, .recovering, .clearing, .frozen, .down, .closed],
      res .pointClose 0x21 b (pointIn (.wash 1) st (pointIn (.island 1) st base)) = some 0) ∧
      res .pointClose 0x21 [2, 1] manned = some 0 ∧ (manned.yard.turn? 14).map PoolEntry.status = some (.called (.island 1)) ∧
      res .pointClose 0x21 [2, 4] base = some 6 ∧ res .pointClose 0x21 [2, 5] base = some 3 ∧
      res .pointOpen 0x22 [2, 1] (pointIn (.island 1) .closed base) = some 0 ∧
      res .pointOpen 0x22 [2, 1] (stationIn 4 .lost (pointIn (.island 1) .closed base)) = some 0 ∧
      res .pointOpen 0x22 [2, 1] (pointIn (.island 1) .down base) = some 0 ∧
      res .pointOpen 0x22 [2, 1] (stationIn 4 .lost (pointIn (.island 1) .down base)) = some 5 ∧
      res .pointOpen 0x22 [2, 1] base = some 5 ∧
      res .pointOpen 0x22 [2, 1] (on (Yard.setPoint (.island 1) (fun q => { q with closePending := true })) base) =
        some 0 ∧
      res .pointOpen 0x22 [3, 2] base = some 6 ∧ res .pointOpen 0x22 [3, 3] base = some 3 ∧
      (∀ kind ∈ [0, 1, 4], res .pointClose 0x21 [kind, 1] base = some 3 ∧ res .pointOpen 0x22 [kind, 1] base = some 3) := by
  decide +kernel

/-- A CALLING point closed: its turn returned, its claim released, CLEAR_CALL queued. -/
theorem test_close_calling :
    after (fun y => ((y.turn? 14).map PoolEntry.status, (y.bus? 14).map Bus.wait)) .pointClose (rq 0x21 [2, 1]) manned =
        some (some .waiting, some .turn) ∧
      after (fun y => ((y.lane? 2).map Lane.release, y.cmdQueue.map LineCommand.order)) .pointClose (rq 0x21 [2, 1]) manned =
        some (some none, [.clearCall]) ∧
      after (fun y => y.points.map Point.state) .pointClose (rq 0x21 [2, 1]) manned = some [.closed, .serving] := by
  decide +kernel

/-- The frost on. -/
def frozen (s : State) : State := on (fun y => { y with frost := true }) s

theorem witness_FrostSet :
    res .frostSetOn 0x24 [2] base = some 3 ∧ res .frostSetOn 0x24 [1] (frozen base) = some 0 ∧
      res .frostSetOff 0x24 [0] base = some 0 ∧ res .frostSetOn 0x24 [1] manned = some 0 ∧
      after (fun y => y.points.map Point.state) .frostSetOn (rq 0x24 [1]) base = some [.free, .frozen] ∧
      after (fun y => y.points.map Point.state) .frostSetOff (rq 0x24 [0]) (frozen (pointIn (.wash 1) .frozen base)) =
        some [.free, .free] := by decide +kernel

/-- Bus 13 WAITING, bus 14 CALLED and bus 15 served in the WASH queue. -/
def frosting : State :=
  on (fun y =>
    { y with
      fuelOrdinary := []
      washQueue :=
        [{ bus := 13, time := 0, request := .wash 1 3, skip := 0, status := .waiting },
         { bus := 14, time := 0, request := .wash 2 2, skip := 0, status := .called (.wash 1) },
         { bus := 15, time := 0, request := .wash 2 3, skip := 0, status := .serving (.wash 2) }]
      points :=
        y.points.map (fun q =>
          if q.id = .island 1 then { q with state := .free, bus := none, callTimer := none }
          else { q with state := .calling, bus := some 14, callTimer := some 9, program := none, passesLeft := 0 }) }) manned

/-- Frost on meets each status: residue kept, TURN_DONE, the plan advanced (here into an EMPTY slot), the call withdrawn. -/
theorem test_frost_walk :
    after posted .frostSetOn (rq 0x24 [1]) frosting =
        some [⟨.turnDone, 13, 3, 0⟩, ⟨.planFault, 13, 1, 6⟩, ⟨.turnDone, 14, 2, 0⟩, ⟨.planFault, 14, 1, 6⟩] ∧
      after (fun y => (y.washQueue.map PoolEntry.bus, [13, 14].map (fun f => (y.bus? f).map Bus.residue))) .frostSetOn
        (rq 0x24 [1]) frosting = some ([15], [some 3, some 2]) ∧
      after (fun y => (y.points.map Point.state, (y.lane? 2).map Lane.release)) .frostSetOn (rq 0x24 [1]) frosting =
        some ([.free, .frozen], some none) := by decide +kernel

/-- A point FREE with a selection event raised, buses in TURN at LOOSE and IN_LANE, a queue whose first bus is not callable. -/
def selecting : State :=
  on (fun y =>
    { y with
      fleet := [bus 11 (.inLane 1) .turn, bus 12 .outside .turn, bus 13 .loose .turn, bus 15 (.atPoint (.wash 1)) .turn]
      fuelPriority := [{ bus := 12, time := 0, request := .fuel .gas, skip := 254, status := .waiting }]
      fuelOrdinary := [{ bus := 11, time := 0, request := .fuel .diesel, skip := 0, status := .waiting }]
      washQueue := [{ bus := 15, time := 0, request := .wash 1 1, skip := 0, status := .waiting }]
      lanes := y.lanes.map (fun l => if l.number = 1 then { l with occupants := [11] } else l)
      points := y.points.map (fun q => { q with selection := true }) }) base

theorem witness_SelectionScans :
    (selecting.yard.points.map Point.selection = [true, true]) ∧
      shown (fun y => (y.fuelPriority.map PoolEntry.skip, (y.point? (.island 1)).map Point.bus, (y.bus? 11).map Bus.wait))
        (.islandSelection 1) selecting = some ([255], some (some 11), some .called) ∧
      shown (fun y => ((y.point? (.wash 1)).map Point.state, (y.bus? 15).map Bus.wait)) (.washSelection 1) selecting =
        some (some .occupied, some .serving) ∧
      (base.yard.points.map Point.selection = [false, false]) ∧ selecting.yard.callable (.island 1) 13 = true ∧
      selecting.yard.callable (.island 1) 12 = false ∧ selecting.yard.point? (.island 2) = none ∧
      (pointIn (.island 1) .closed selecting).yard.points.map Point.state = [.closed, .free] := by decide +kernel

/-- Missed calls below 2 and at 2; recovery with a bus served, with one that is not, with none; timers that do not run. -/
theorem witness_PointTimersExpire :
    (manned.yard.point? (.island 1)).map Point.state = some .calling ∧
      shown (fun y => (y.bus? 14).map Bus.wait) (.callTimerExpiry (.island 1)) manned = some (some .turn) ∧
      shown (fun y => (y.bus? 14).map Bus.fault) (.callTimerExpiry (.island 1))
        (on (Yard.setBus 14 (fun b => { b with missedCalls := 2 })) manned) = some (some (some .missedCalls)) ∧
      (base.yard.point? (.island 1)).map Point.callTimer = some none ∧
      (∀ x ∈ [(PointId.wash 1, Instr.washRecoveryExpiry 1), (.island 1, .islandRecoveryExpiry 1)],
        shown (fun y => (y.point? x.1).map Point.state) x.2
          (on (Yard.setPoint x.1 (fun q => { q with state := .recovering, recoveryTimer := some 0 })) manned) =
            some (some .down)) ∧
      manned.yard.servingAt (.wash 1) 15 = true ∧ manned.yard.servingAt (.wash 1) 14 = false := by decide +kernel

/-! ### Witnesses: parking lanes -/

/-- Lane 1 changed. -/
def laneWith (g : Lane → Lane) (s : State) : State := on (Yard.setLane 1 g) s

theorem witness_LanesHeld :
    (∀ x ∈ [(0, 0), (14, 0), (15, 5)], res .laneHold 0x29 [1] (laneWith (fun l => { l with hold := x.1 }) base) = some x.2) ∧
      (∀ x ∈ [(0, 5), (1, 0), (2, 0)],
        res .laneUnhold 0x2A [1] (laneWith (fun l => { l with hold := x.1 }) base) = some x.2) ∧
      (∀ x ∈ [(0, 3), (25, 3), (24, 6)], res .laneHold 0x29 [x.1] base = some x.2 ∧ res .laneUnhold 0x2A [x.1] base = some x.2) ∧
      res .laneHold 0x29 [1] un = some 4 := by decide +kernel

/-- No unsent command, an unsent SIGN, an unsent CONFIRM_FRONT; a content that differs and one that does not; a release field. -/
theorem witness_SignContentFollowsTheLane :
    (∀ o ∈ [Order.sign .blank, .confirmFront],
      ((on (Yard.queueCommand (.lane 1) 2 o) base).yard.unsent? (.lane 1)).map LineCommand.order = some o) ∧
      base.yard.unsent? (.lane 1) = none ∧
      (base.yard.lane? 1).map (fun l => decide (l.content = l.sign)) = some true ∧
      ((laneWith (fun l => { l with closed := true }) base).yard.lane? 1).map (fun l => decide (l.content = l.sign)) =
        some false ∧
      (manned.yard.lanes.find? (fun l => l.release == some (14, .call))).map Lane.number = some 2 := by decide +kernel

/-- What waits behind a command that is taken for sending: CONFIRM_FRONT first, then SIGN, else nothing. -/
theorem test_pending_follows :
    (∀ x ∈ [(true, true, [Order.confirmFront]), (false, true, [.sign .blank]), (false, false, [])],
      (((laneWith (fun l => { l with confirmPending := x.1, signPending := x.2.1, sign := .blank }) base).yard.takenForSending
        1).cmdQueue.map LineCommand.order = x.2.2)) ∧
      (((on (Yard.queueCommand (.lane 1) 2 (.sign .blank)) base).yard.wantConfirm 1).lane? 1).map Lane.confirmPending =
        some true := by decide +kernel

theorem witness_LanesClosedOpenedAndForced :
    res .laneClose 0x2B [1] base = some 0 ∧ res .laneClose 0x2B [1] (laneWith (fun l => { l with closed := true }) base) = some 0 ∧
      res .laneClose 0x2B [1] manned = some 5 ∧ res .laneOpen 0x2C [1] base = some 5 ∧
      res .laneOpen 0x2C [1] (laneWith (fun l => { l with closed := true }) base) = some 0 ∧
      res .laneForce 0x2D [1, 255, 255, 255, 255] base = some 0 ∧
      (∀ x ∈ [(0, 3), (25, 3), (24, 6)],
        res .laneClose 0x2B [x.1] base = some x.2 ∧ res .laneOpen 0x2C [x.1] base = some x.2 ∧
          res .laneForce 0x2D [x.1, 0, 0, 0, 0] base = some x.2) ∧
      (manned.yard.lane? 1).map manned.yard.occupied = some 2 := by
  repeat' apply And.intro
  all_goals decide +kernel

/-- An occupancy answer that agrees with the berths clears MISMATCH; one that does not sets it. -/
theorem witness_occupancy_agrees :
    ((manned.yard.occupancy manned.env 1 (BitVec.ofNat 12 3)).lane? 1).map Lane.mismatch = some false := by decide +kernel

theorem witness_occupancy_differs :
    ((manned.yard.occupancy manned.env 1 (BitVec.ofNat 12 7)).lane? 1).map Lane.mismatch = some true := by decide +kernel

/-- What a test looks at in a lane. -/
structure LaneView where
  occupants : List Nat
  reserved : List Nat
  released : Option Nat
  mismatch : Bool
deriving DecidableEq, Repr

/-- The notices posted, and what the lanes show. -/
def lanesOf (y : Yard) : List Post × List LaneView :=
  (posted y, y.lanes.map (fun l => ⟨l.occupants, l.reservations.map Reservation.bus, l.release.map Prod.fst, l.mismatch⟩))

/-- ENTERED with the lane's own reservation, with another lane's, with none, and of an unknown bus at both kinds of lane. -/
theorem witness_entered :
    lanesOf (told (some (.lane 1)) (report .entered 18 0) manned) =
        ([⟨.parked, 18, 1, 3⟩, ⟨.planFault, 18, 1, 6⟩],
          [⟨[11, 12, 18], [], none, false⟩, ⟨[14], [], some 14, false⟩]) ∧
      lanesOf (told (some (.lane 2)) (report .entered 18 0) manned) =
        ([⟨.mispark, 18, 1, 0⟩, ⟨.planFault, 18, 1, 6⟩, ⟨.berthAssigned, 17, 1, 0⟩],
          [⟨[11, 12], [17], none, false⟩, ⟨[18, 14], [], none, false⟩]) ∧
      lanesOf (told (some (.lane 2)) (report .entered 10 0) manned) =
        ([⟨.unplannedEntry, 10, 1, 2⟩], [⟨[11, 12], [18], none, false⟩, ⟨[10, 14], [], none, false⟩]) ∧
      lanesOf (told (some (.lane 2)) (report .entered 9 0) manned) =
        ([⟨.laneMismatch, 0, 4, 0⟩], [⟨[11, 12], [18], none, false⟩, ⟨[14], [], none, true⟩]) ∧
      lanesOf (told (some (.lane 1)) (report .entered 9 0) manned) =
        ([⟨.laneMismatch, 0, 4, 0⟩],
          [⟨[11, 12], [18], none, true⟩, ⟨[14], [], some 14, false⟩]) := by decide +kernel

/-- EXITED released, at the exit end without a release, from behind it, of a bus that stood elsewhere, of an unknown bus. -/
theorem witness_exited :
    lanesOf (told (some (.lane 2)) (report .exited 14 0) manned) =
        ([⟨.berthAssigned, 17, 1, 0⟩], [⟨[11, 12], [18, 17], none, false⟩, ⟨[], [], none, false⟩]) ∧
      (∀ x ∈ [(11, [(⟨.unsanctionedExit, 11, 0, 0⟩ : Post), ⟨.berthAssigned, 17, 1, 0⟩]),
          (12, [⟨.laneMismatch, 12, 2, 0⟩, ⟨.unsanctionedExit, 12, 0, 0⟩, ⟨.berthAssigned, 17, 1, 0⟩]),
          (10, [⟨.laneMismatch, 10, 3, 0⟩, ⟨.unsanctionedExit, 10, 0, 0⟩, ⟨.berthAssigned, 17, 1, 0⟩]),
          (9, [⟨.laneMismatch, 0, 3, 0⟩])],
        posted (told (some (.lane 1)) (report .exited x.1 0) manned) = x.2) := by decide +kernel

/-- TAG_SEEN of the exit-end bus, of another, and of an unknown tag. -/
theorem witness_tagSeen :
    (∀ x ∈ [(11, ([] : List Post)), (12, [⟨.laneMismatch, 12, 5, 0⟩]), (9, [⟨.laneMismatch, 0, 5, 0⟩])],
      posted (told (some (.lane 1)) (report .tagSeen x.1 0) manned) = x.2) := by decide +kernel

/-- Bus 18 reserved in the BLIND lane 2, which holds 14 or also 19. -/
def crowded (kind : ReservationKind) (occupants : List Nat) : State :=
  on (fun y =>
    { y with
      lanes :=
        y.lanes.map (fun l =>
          if l.number = 1 then { l with reservations := [] }
          else
            { l with
              occupants, release := none
              reservations := [{ bus := 18, places := 1, kind, entryTimer := some 9, lapses := 0 }] }) }) manned

/-- An entry beyond the capacity evicts the last reservation, of either kind; beyond it without reservations the lane is OVERFULL. -/
theorem witness_eviction :
    (∀ k ∈ [ReservationKind.park, .shunt],
      (lanesOf (told (some (.lane 2)) (report .entered 10 0) (crowded k [14]))).2 =
          [⟨[11, 12], [17], none, false⟩, ⟨[10, 14], [], none, false⟩] ∧
        (posted (told (some (.lane 2)) (report .entered 10 0) (crowded k [14]))).head? = some ⟨.entryLapsed, 18, 4, 0⟩) ∧
      (posted (told (some (.lane 2)) (report .entered 10 0) (crowded .park [14, 19]))).take 2 =
        [⟨.entryLapsed, 18, 4, 0⟩, ⟨.laneOverfull, 10, 0, 3⟩] := by decide +kernel

/-- Bus 14 released in lane 2 with a reason. -/
def released (reason : ReleaseReason) : State :=
  on (fun y =>
    { y.setLane 2 (fun l => { l with release := some (14, reason) }) with
      departures := [{ slot := 5, bus := 14, state := .released, mark := 1, noticeSent := false, lapse := some 60 }] }) manned

/-- A bus enters before the released one: its release is withdrawn, by the reason. A released bus leaves: OUTBOUND. -/
theorem witness_withdrawn_release :
    (let y := told (some (.lane 2)) (report .entered 10 0) (released .depart)
     (y.departure? 14).map Departure.state = some .due ∧ (posted y).head? = some ⟨.releaseWithdrawn, 14, 0, 5⟩ ∧
      (y.lane? 2).map Lane.release = some none) ∧
      (let y := told (some (.lane 2)) (report .entered 10 0) (released .call)
       (y.turn? 14).map PoolEntry.status = some .waiting ∧ (y.point? (.island 1)).map Point.state = some .free) ∧
      (((told (some (.lane 2)) (report .exited 14 0) (released .depart)).departure? 14).map Departure.state =
        some .outbound) := by decide +kernel

/-- Bus 11 shunted from lane 1 to lane 2. -/
def shunting : State :=
  on (fun y =>
    { y.setBus 11 (fun b => { b with wait := .entry, shuntMarker := some .ended }) with
      lanes :=
        y.lanes.map (fun l =>
          if l.number = 1 then { l with reservations := [], release := some (11, .shunt) }
          else
            { l with
              occupants := [], release := none
              reservations := [{ bus := 11, places := 1, kind := .shunt, entryTimer := some 9, lapses := 0 }] }) }) manned

/-- A shunting bus enters its origin again (R118): ENTRY_LAPSED code 5 names the lane of the reservation that the entry removed. -/
theorem test_shunt_reentry :
    ((told (some (.lane 1)) (report .entered 11 0) shunting).notices.queue.head?.map (fun n =>
        (n.kind, n.fleet, n.place, n.code)) = some (.entryLapsed, 11, some (.lane 2), 5)) ∧
      (((told (some (.lane 1)) (report .entered 11 0) shunting).bus? 11).map (fun b => (b.wait, b.shuntMarker)) =
        some (.ended, none)) := by decide +kernel

/-- Bus 11 at the mouth of the BLIND lane 2, shunted to lane 1. -/
def shuntingBlind : State :=
  on (fun y =>
    { y.setBus 11 (fun b => { b with position := .inLane 2, wait := .entry, shuntMarker := some .ended }) with
      lanes :=
        y.lanes.map (fun l =>
          if l.number = 1 then
            { l with
              occupants := []
              reservations := [{ bus := 11, places := 1, kind := .shunt, entryTimer := some 9, lapses := 0 }] }
          else { l with occupants := [11], release := some (11, .shunt) }) }) manned

/-- The shunt of that bus has ended by its re-entry and left its field; now it has a PARK reservation in lane 1. -/
def shuntLeft : State :=
  on (fun y =>
    (y.setBus 11 (fun b => { b with shuntMarker := none })).setLane 1 (fun l =>
      { l with reservations := l.reservations.map (fun r => { r with kind := .park }) })) shuntingBlind

/-- A re-entry of a BLIND lane ends the shunt by mispark and leaves the field (R105, R107, R118). The field withdrawn later cancels
nothing: the PARK reservation stands (log 31). -/
theorem test_blind_reentry :
    (let y := told (some (.lane 2)) (report .entered 11 0) shuntingBlind
     (posted y).head? = some ⟨.mispark, 11, 1, 0⟩ ∧ (y.bus? 11).map Bus.wait = some .ended ∧
      (y.lane? 2).map Lane.release = some (some (11, .shunt))) ∧
      lanesOf (told (some (.lane 2)) (report .entered 10 0) shuntLeft) =
        ([⟨.unplannedEntry, 10, 1, 2⟩], [⟨[], [11], none, false⟩, ⟨[10, 11], [], none, false⟩]) ∧
      (((told (some (.lane 2)) (report .entered 10 0) shuntLeft).bus? 11).map Bus.wait = some .entry) ∧
      lanesOf (told (some (.lane 2)) (report .entered 10 0) shuntingBlind) =
        ([⟨.entryLapsed, 11, 5, 0⟩, ⟨.unplannedEntry, 10, 1, 2⟩, ⟨.berthAssigned, 17, 1, 1441⟩],
          [⟨[], [17], none, false⟩, ⟨[10, 11], [], none, false⟩]) := by decide +kernel

/-- PLAN_ABORT gives back the SHUNT claim of an ENTRY that a SHUNT set, and of no other (R53). -/
theorem test_abort_of_shunt :
    (∀ x ∈ [(shuntingBlind, (none : Option (Nat × ReleaseReason))), (shuntLeft, some (11, .shunt))],
      after (fun y => (y.lane? 2).map Lane.release) .planAbort (rq 0x1C [0, 11]) x.1 = some (some x.2)) := by decide +kernel

/-- Lane 1 held. -/
def held : State := laneWith (fun l => { l with hold := 1 }) manned

theorem witness_LaneSet :
    res .laneSet 0x2E [1, 0] held = some 0 ∧ res .laneSet 0x2E [1, 3, 0, 12, 0, 18, 0, 10] held = some 0 ∧
      after (fun y => (y.lane? 1).map Lane.occupants) .laneSet (rq 0x2E [1, 3, 0, 12, 0, 18, 0, 10]) held =
        some (some [12, 18, 10]) ∧
      after (fun y => (posted y, (y.lane? 1).map (fun l => (l.occupants, l.overfull)))) .laneSet (rq 0x2E [1, 1, 0, 10])
        (laneWith (fun l => { l with occupants := [], reservations := [] }) held) = some ([], some ([10], false)) ∧
      res .laneSet 0x2E [1, 0] manned = some 5 ∧ res .laneSet 0x2E [1, 1, 0, 14] held = some 5 ∧
      res .laneSet 0x2E [1, 1, 0, 9] held = some 6 ∧ res .laneSet 0x2E [24, 0] held = some 6 ∧
      (∀ b ∈ [[25, 0], [0, 0], [1, 1, 0, 0], [1, 2, 0, 10, 0, 10], 1 :: 13 :: (List.replicate 13 [0, 1]).flatten],
        res .laneSet 0x2E b held = some 3) := by decide +kernel

/-- LANE_SET withdraws the release of a bus no longer at the exit end: its shunt is cancelled, its claim gone (R119 step 4). -/
theorem test_laneSet_withdraws :
    after lanesOf .laneSet (rq 0x2E [2, 1, 0, 10]) (on (Yard.setLane 2 (fun l => { l with hold := 1 })) shuntingBlind) =
      some ([⟨.entryLapsed, 11, 5, 0⟩, ⟨.berthAssigned, 17, 1, 1441⟩],
        [⟨[], [17], none, false⟩, ⟨[10], [], none, false⟩]) := by decide +kernel

/-- Bus 11 at the exit end of lane 1; lane 2 free for it. -/
theorem witness_Shunted :
    (∀ x ∈ [([0, 11, 1], 5), ([0, 11, 24], 6), ([0, 11, 25], 3), ([0, 9, 1], 6), ([0, 0, 1], 3), ([0, 12, 2], 5)],
      res .shunt 0x2F x.1 manned = some x.2) ∧
      res .shunt 0x2F [0, 11, 2] manned = some 0 ∧
      after (fun y => (y.lane? 2).map (fun l => l.reservations.map Reservation.bus)) .shunt (rq 0x2F [0, 11, 2]) manned =
        some (some [11]) := by decide +kernel

/-- The lanes of the yard in a state. -/
def parkAt (arg : Option Nat) (s : State) : Option (PlanWait × List (List Nat)) :=
  let env : Env := { s.env with plan := [(511, .park arg)] }
  let y := s.yard.advanceSteps env 10 1 none 511
  (y.bus? 10).map (fun b => (b.wait, y.lanes.map (fun l => l.reservations.map Reservation.bus)))

/-- Bus 10 has an earlier slot than every bus in lane 1, and lane 2 is closed: no lane is compliant. -/
def early : State :=
  on (fun y =>
    { y with
      departures := [{ slot := 0, bus := 10, state := .waiting, mark := 1, noticeSent := false, lapse := none }]
      lanes := y.lanes.map (fun l => { l with closed := l.number == 2 }) }) manned

/-- Named, AUTO, inverted, and no berth. -/
theorem witness_ParkSteps :
    parkAt (some 1) manned = some (.entry, [[18, 10], []]) ∧ parkAt (some 24) manned = some (.berth, [[18], []]) ∧
      parkAt (some 2) (on (Yard.setLane 2 (fun l => { l with closed := true })) manned) = some (.berth, [[18], []]) ∧
      parkAt none manned = some (.entry, [[18, 10], []]) ∧
      parkAt none (on (fun y => { y with lanes := y.lanes.map (fun l => { l with dark := true }) }) manned) =
        some (.berth, [[18], []]) ∧
      parkAt none early = some (.berth, [[18], []]) ∧
      parkAt none { early with env := { early.env with params := { early.env.params with invertAllowed := true } } } =
        some (.entry, [[18, 10], []]) := by
  repeat' apply And.intro
  all_goals decide +kernel

/-- A first lapse, a second, a shunt's; a release that lapses. -/
theorem witness_LapsesExpire :
    (manned.yard.reservation? 18).map (fun x => x.2.entryTimer) = some (some 0) ∧
      shown (fun y => (y.bus? 18).map Bus.fault) (.entryTimerExpiry 18) manned = some (some (some .emptyStep)) ∧
      shown (fun y => (y.bus? 18).map Bus.fault) (.entryTimerExpiry 18)
        (laneWith (fun l => { l with reservations := l.reservations.map (fun r => { r with lapses := 1 }) }) manned) =
          some (some (some .parkTimeout)) ∧
      shown (fun y => (y.bus? 18).map Bus.wait) (.entryTimerExpiry 18)
        (on (Yard.setBus 18 (fun b => { b with shuntMarker := some .ended }))
          (laneWith (fun l => { l with reservations := l.reservations.map (fun r => { r with kind := .shunt }) }) manned)) =
            some (some .ended) ∧
      base.yard.reservation? 18 = none ∧
      shown (fun y => (y.departure? 11).map Departure.state) (.releaseLapseExpiry 11) lastSecond = some (some .due) ∧
      (lastSecond.yard.departure? 12).map Departure.lapse = some none := by decide +kernel

/-- A reservation whose timer does not run, and a release lapse of a bus without an entry: nothing changes. -/
theorem test_no_lapse :
    shown posted (.entryTimerExpiry 18)
        (laneWith (fun l => { l with reservations := l.reservations.map (fun r => { r with entryTimer := none }) }) manned) =
          some [] ∧
      manned.yard.departure? 9 = none ∧ shown posted (.releaseLapseExpiry 9) manned = some [] := by decide +kernel

/-! ### Witnesses: morning pull-out -/

theorem witness_SlotsChanged :
    res .slotAdd 0x30 [0, 10, 5, 159] manned = some 0 ∧ res .slotAdd 0x30 [0, 10, 5, 160] manned = some 3 ∧
      res .slotAdd 0x30 [0, 9, 0, 0] manned = some 6 ∧ res .slotAdd 0x30 [0, 0, 0, 0] manned = some 3 ∧
      res .slotAdd 0x30 [0, 12, 0, 0] lastSecond = some 7 ∧ res .slotRemove 0x31 [0, 12] lastSecond = some 0 ∧
      res .slotRemove 0x31 [0, 11] lastSecond = some 5 ∧ res .slotRemove 0x31 [0, 10] manned = some 6 ∧
      res .slotRemove 0x31 [39, 16] manned = some 3 ∧ res .slotMove 0x32 [0, 12, 0, 4] lastSecond = some 0 ∧
      after (fun y => y.departures.map Departure.bus) .slotMove (rq 0x32 [0, 12, 0, 4]) lastSecond = some [12, 11] ∧
      res .slotMove 0x32 [0, 11, 0, 4] lastSecond = some 5 ∧ res .slotMove 0x32 [0, 12, 5, 160] lastSecond = some 3 ∧
      res .slotMove 0x32 [0, 10, 0, 4] lastSecond = some 6 := by decide +kernel

/-- A slot added makes lane 1 disordered, and the waiting bus gets a berth; with every lane DARK it keeps its wait. -/
theorem test_key_change :
    after (fun y => (posted y, (y.lane? 1).map Lane.inversions, y.waits.map BerthWait.bus)) .slotAdd (rq 0x30 [0, 12, 0, 5])
        manned = some ([⟨.laneDisorder, 0, 0, 1⟩, ⟨.berthAssigned, 17, 1, 0⟩], some 1, []) ∧
      after (fun y => (posted y, y.waits.map BerthWait.bus)) .slotAdd (rq 0x30 [0, 10, 0, 5])
        (on (fun y => { y with lanes := y.lanes.map (fun l => { l with dark := true }) }) manned) = some ([], [17]) := by
  decide +kernel

/-- The pull-out running. -/
def pulling (departures : List Departure) (s : State) : State :=
  on (fun y => { y with pullout := true, pacing := some 0, departures }) s

theorem witness_PullOutStartedAndStopped :
    res .pulloutStart 0x33 [] base = some 0 ∧ res .pulloutStart 0x33 [] (pulling [] base) = some 5 ∧
      res .pulloutStop 0x34 [] base = some 5 ∧ res .pulloutStop 0x34 [] (pulling [] base) = some 0 := by decide +kernel

/-- An entry of a slot. -/
def entry (f slot : Nat) : Departure :=
  { slot, bus := f, state := .blocked, mark := f, noticeSent := false, lapse := none }

/-- Bus 11 at the exit end of lane 1, bus 12 behind it, bus 10 LOOSE. -/
theorem witness_PacingExpires :
    shown (fun y => y.pacing) .pacingExpiry (pulling [] manned) = some (some 40) ∧ base.yard.pacing = none ∧
      (∀ x ∈ [([entry 11 3], [DepartureState.waiting]), ([entry 11 2], [.released]), ([entry 10 0], [.late]),
          ([entry 13 0], [.late]), ([entry 12 0], [.blocked]), ([entry 12 0, entry 11 1], [.released, .waiting])],
        shown (fun y => y.departures.map Departure.state) .pacingExpiry (pulling x.1 manned) = some x.2) ∧
      shown (fun y => y.departures.map Departure.bus) .pacingExpiry (pulling [entry 12 0, entry 11 1] manned) =
        some [11, 12] ∧
      shown (fun y => y.departures.map Departure.state) .pacingExpiry
        (pulling [entry 11 0] (laneWith (fun l => { l with dark := true }) manned)) = some [.due] ∧
      shown (fun y => (y.departures.map Departure.state, (y.unsent? (.lane 1)).map LineCommand.order)) .pacingExpiry
        (pulling [entry 11 0] (on (Yard.setBus 11 (fun b => { b with age := 0 })) manned)) =
          some ([.confirming], some .confirmFront) := by decide +kernel

/-! ### Witnesses: the yard line -/

/-- The answer a station sends. -/
def heard (fields : List Nat) : AnswerWindow :=
  .answer ((lineFrame (fields.map (BitVec.ofNat 8))).map RxChar.byte) true

/-- A window open for a holder. -/
def windowFor (holder : LineHolder) (s : State) : State :=
  { s with line := { s.line with holder := some holder, phase := .window } }

/-- An ask of station 63. -/
def ask63 : Ask := { tag := 9#8, address := 63, op := .read, item := 1, value := 0 }

/-- Characters received whole and in time. -/
def chars (bytes : List Byte) : AnswerWindow := .answer (bytes.map RxChar.byte) true

/-- An answer in time with both bytes of its check inverted. -/
def miscoded (fields : List Byte) : AnswerWindow := chars (fields ++ (crcBytes (crc16 fields)).map (~~~ ·))

/-- Inverted check bytes are not the check, whatever the fields (the premise of the clauses on bad checks). -/
theorem witness_badCheck : ∀ fields ∈ [[], [63, 4, 1, 0], [2, 2], [1, 1, 0, 1, 0, 10, 0, 0]],
    [~~~(crcBytes (crc16 fields)).getD 0 0, ~~~(crcBytes (crc16 fields)).getD 1 0] ≠ crcBytes (crc16 fields) := by decide +kernel

/-- The codes of the notices an outcome leaves queued. -/
def codes (c : Instr) (s : State) : Option (List (Nat × Nat)) :=
  shown (fun y => y.notices.queue.map (fun n => (n.code, n.quantity))) c s

theorem witness_AsksQueuedAndAnswered :
    (∀ b ∈ [[1, 1, 255, 0, 0], [63, 3, 0, 255, 255]], res .lineAsk 0x38 b un = some 0) ∧
      (∀ b ∈ [[0, 1, 0, 0, 0], [64, 1, 0, 0, 0], [1, 0, 0, 0, 0], [1, 4, 0, 0, 0], [1, 2, 0, 0, 1]],
        res .lineAsk 0x38 b base = some 3) ∧
      (let s := windowFor .ask { base with line := { base.line with asks := [ask63, ask63] } }
       res .lineAsk 0x38 [1, 1, 0, 0, 0] s = some 9 ∧
        codes (.askAnswer .silent) s = some [(3, 0)] ∧ codes (.askAnswer (heard [63, 4, 1, 0])) s = some [(1, 256)] ∧
        codes (.askAnswer (heard [63, 3, 255])) s = some [(2, 255)] ∧ codes (.askAnswer (heard [63, 2])) s = some [(4, 0)] ∧
        codes (.askAnswer (heard [62, 4, 1, 0])) s = some [(4, 0)] ∧
        (∀ fields ∈ [[63, 1, 0, 1, 0, 10, 0, 0], [63, 0], [63, 5], [63, 3], [63, 3, 0], [63, 3, 1, 1], [63, 4, 1], [63, 4, 1, 0, 0]],
          codes (.askAnswer (heard fields)) s = some [(4, 0)]) ∧
        codes (.askAnswer (.answer [.framingError] true)) s = some [(4, 0)] ∧
        codes (.askAnswer (miscoded [63, 4, 1, 0])) s = some [(4, 0)] ∧ codes (.askAnswer (chars [63, 4, 1])) s = some [(4, 0)] ∧
        codes (.askAnswer (.answer [.byte 1#8] false)) s = some [(4, 0)]) ∧
      base.line.phase ≠ .window := by decide +kernel

/-- A SIGN for lane 1 on the line. -/
def signing (retry : Bool) : State :=
  windowFor .command
    (on (fun y =>
      { y with inFlight := some { command := { owner := .lane 1, station := 2, order := .sign .blank }, retry } }) base)

theorem witness_CommandsAnswered :
    (∀ retry ∈ [false, true],
      shown (fun y => (y.inFlight, (y.lane? 1).map Lane.lastSign)) (.commandAnswer (heard [2, 2])) (signing retry) =
        some (none, some (some .blank)) ∧
      shown (fun y => y.inFlight.isSome) (.commandAnswer (heard [2, 3, 1])) (signing retry) = some false ∧
      (∀ w ∈ [AnswerWindow.silent, heard [3, 2], .answer [.framingError] true, .answer [.byte 2#8] false, miscoded [2, 2], chars [2],
          heard [2, 4, 0, 1], heard [2, 1, 0, 1, 0, 10, 0, 0], heard [2, 5], heard [2, 2, 9], heard [2, 3], heard [2, 3, 0]],
        shown (fun y => (y.inFlight.isSome, (y.station? 2).map Station.failures)) (.commandAnswer w) (signing retry) =
          some (!retry, some 1))) ∧
      ((on (Yard.setPoint (.wash 1) (fun q => { q with deferred := some .clearCall })) base).yard.point? (.wash 1)).map
        Point.deferred = some (some .clearCall) ∧ (base.yard.point? (.wash 1)).map Point.deferred = some none := by
  repeat' apply And.intro
  all_goals decide +kernel

/-- CALL for island 1 on the line. -/
def callOut : State :=
  windowFor .command
    (on (fun y =>
      { y with inFlight := some { command := { owner := .point (.island 1), station := 4, order := .call 14 }, retry := false } })
        manned)

/-- NOT_READY of a point's command is a fault of the point; ACCEPTED lets its deferred command follow. -/
theorem test_point_answers :
    shown (fun y => (posted y, y.points.map Point.state, y.cmdQueue.map LineCommand.order)) (.commandAnswer (heard [4, 3, 9]))
        callOut = some ([⟨.pointFault, 14, 9, 2⟩], [.recovering, .serving], [.resetPoint]) ∧
      shown (fun y => (posted y, y.cmdQueue.map LineCommand.order)) (.commandAnswer (heard [4, 2]))
        (on (Yard.setPoint (.island 1) (fun q => { q with deferred := some .clearCall })) callOut) =
          some ([], [.clearCall]) := by decide +kernel

/-- A poll of a group open. -/
def polling (stack : List Group) (garbles : Nat) : State :=
  windowFor .round
    { base with rounds := { base.rounds with active := some .urgent, count := 95, garbles, stack } }

/-- The stack and the garbles after a window. -/
def stackAfter (w : AnswerWindow) (s : State) : Option (List Group × Nat × Option TakenOwed) :=
  seen (fun s => (s.rounds.stack, s.rounds.garbles, s.rounds.taken)) (exec (.roundPollAnswer w) s)

/-- Groups of prefix length 0, 5 and 6, the first and the second garble, the last group and one before it. -/
theorem witness_RoundPollsAnswered :
    stackAfter .silent (polling [⟨6, 1⟩] 0) = some ([], 0, none) ∧
      stackAfter .silent (polling [⟨6, 1⟩, ⟨5, 1⟩] 1) = some ([⟨5, 1⟩], 0, none) ∧
      stackAfter (.answer [.framingError] true) (polling [⟨0, 0⟩] 0) = some ([⟨1, 0⟩, ⟨1, 1⟩], 0, none) ∧
      stackAfter (.answer [.byte 1#8] false) (polling [⟨5, 31⟩] 0) = some ([⟨6, 62⟩, ⟨6, 63⟩], 0, none) ∧
      stackAfter (heard [1, 1, 0, 1, 0, 10, 0, 0]) (polling [⟨6, 63⟩] 0) = some ([⟨6, 63⟩], 1, none) ∧
      stackAfter (heard [63, 2]) (polling [⟨6, 63⟩] 1) = some ([], 0, none) ∧
      (∀ address ∈ [0, 64, 255],
        stackAfter (heard [address, 1, 0, 1, 0, 10, 0, 0]) (polling [⟨0, 0⟩] 0) = some ([⟨1, 0⟩, ⟨1, 1⟩], 0, none)) ∧
      stackAfter (miscoded [1, 1, 0, 1, 0, 10, 0, 0]) (polling [⟨6, 1⟩] 0) = some ([⟨6, 1⟩], 1, none) ∧
      stackAfter (miscoded [1, 1, 0, 1, 0, 10, 0, 0]) (polling [⟨0, 0⟩] 0) = some ([⟨1, 0⟩, ⟨1, 1⟩], 0, none) ∧
      stackAfter (chars [1, 1, 0]) (polling [⟨6, 1⟩] 1) = some ([], 0, none) ∧
      stackAfter (heard [1, 1, 2, 1, 0, 10, 0, 0]) (polling [⟨6, 1⟩] 0) = some ([⟨6, 1⟩], 0, some ⟨1, false⟩) ∧
      stackAfter (heard [1, 1, 0, 1, 0, 10, 0, 0]) (polling [⟨6, 1⟩] 0) = some ([⟨6, 1⟩], 0, some ⟨1, true⟩) ∧
      stackAfter (heard [1, 1, 0, 14, 0, 10, 0, 0]) (polling [⟨6, 1⟩] 0) = some ([⟨6, 1⟩], 1, none) ∧
      readReport [0#8, 1#8, 0#8, 10#8, 0#8, 0#8] =
        some { turn := false, more := false, kind := .arrived, fleet := 10, quantity := 0, mask := 0 } := by
  repeat' apply And.intro
  all_goals decide +kernel

/-- Table 11-10's payload at its bounds: the mask of an OCCUPANCY, quantities, the fleet number, the flags, the kind. -/
theorem witness_RoundPollsAnswered_payload :
    (∀ x ∈ [([0, 8, 0, 0, 0, 0, 15, 255], true), ([0, 8, 0, 0, 0, 0, 16, 0], false), ([0, 8, 0, 0, 0, 0], false),
        ([7, 4, 39, 15, 0, 255], true), ([7, 4, 39, 15, 1, 0], false), ([7, 5, 39, 15, 39, 15], true),
        ([7, 5, 39, 16, 0, 0], false), ([8, 5, 0, 0, 0, 0], false), ([3, 5, 0, 0, 0, 1], false), ([0, 0, 0, 0, 0, 0], false),
        ([0, 13, 0, 0, 0, 0], true), ([0, 13, 0, 0, 0, 0, 0], false)],
      (stackAfter (heard (2 :: 1 :: x.1)) (polling [⟨6, 2⟩] 0)).map (fun r => r.2.2.isSome) = some x.2) ∧
      shown (fun y => (y.lane? 1).map Lane.mismatch) (.roundPollAnswer (heard [2, 1, 0, 8, 0, 0, 0, 0, 15, 255]))
        (polling [⟨6, 2⟩] 0) = some (some true) := by
  repeat' apply And.intro
  all_goals decide +kernel

/-- What a step leaves of the line: YLDE, the phase, the length of the master frame. -/
def lineAfter (o : Host.Outcome State Fault Refusal) : Option (Bool × LinePhase × Nat) :=
  seen (fun s => (s.line.ylde, s.line.phase, s.line.frame.length)) o

/-- A second step after the first. -/
def thenStep (f : State → Host.Outcome State Fault Refusal) (o : Host.Outcome State Fault Refusal) :
    Host.Outcome State Fault Refusal :=
  match o with
  | .next s => f s
  | .fault x => .fault x
  | .refused x => .refused x

/-- YLDE (R143): high from the grant, low once the frame has ended, the window then open; low at the window's end. A TAKEN likewise,
with the idle wait after it. -/
theorem test_ylde :
    base.line.ylde = false ∧ lineAfter (exec .lineGrant base) = some (true, .window, 5) ∧
      lineAfter (thenStep step (exec .lineGrant base)) = some (false, .window, 5) ∧
      lineAfter (thenStep (exec (.roundPollAnswer .silent)) (thenStep step (exec .lineGrant base))) =
        some (false, .idleWait, 5) ∧
      lineAfter (thenStep (exec (.roundPollAnswer .silent)) (exec .lineGrant base)) = some (false, .idleWait, 5) ∧
      (let due := polling [⟨6, 1⟩] 0
       let owed : State :=
         { due with
           rounds := { due.rounds with taken := some ⟨1, false⟩ }
           line := { due.line with phase := .idleWait } }
       lineAfter (exec .lineIdleWaitEnd owed) = some (true, .idleWait, 4) ∧
        lineAfter (thenStep step (exec .lineIdleWaitEnd owed)) = some (false, .idleWait, 4)) := by decide +kernel

/-- A LINE_RESTART cuts a frame that is being sent; a frame that has ended stays whole. The idle wait runs after either. -/
theorem test_restart_cuts_the_frame :
    (let restart (s : State) : Host.Outcome State Fault Refusal := exec .lineRestart (asked (rq 0x39 []) s)
     lineAfter (thenStep restart (exec .lineGrant base)) = some (false, .idleWait, 0) ∧
      lineAfter (thenStep restart (thenStep step (exec .lineGrant base))) = some (false, .idleWait, 5)) := by decide +kernel

/-- Tables 8-3 and 11-8: a SIGN's ten bytes, CALL's three, START_PASS's two, and the orders of one byte. -/
theorem test_orderBytes :
    (Order.sign { mode := .hold, expected1 := 300, expected2 := 2, expected3 := 0, release := 9999 }).bytes =
        [1, 1, 1, 44, 0, 2, 0, 0, 39, 15] ∧
      (Order.call 300).bytes = [3, 1, 44] ∧ (Order.startPass 4).bytes = [6, 4] ∧
      [Order.confirmFront, .clearCall, .resetPoint].map Order.bytes = [[2], [4], [5]] := by decide +kernel

/-- The line idle, its wait running, for each holder and each source of work; the exchange count at 95 and 96. -/
theorem witness_LineGrantedAndHeld :
    base.line.phase = .free ∧ base.rounds.urgentDue = true ∧ base.rounds.routineDue = true ∧
      (let quiet : State := { base with rounds := { base.rounds with urgentDue := false } }
       let waits (s : State) : State := { s with line := { s.line with phase := .idleWait } }
       let holder (c : Instr) (s : State) : Option (Option LineHolder) := seen (fun s => s.line.holder) (exec c s)
       holder .lineGrant base = some (some .round) ∧ holder .lineGrant quiet = some (some .round) ∧
        holder .lineGrant (on (Yard.queueCommand (.lane 1) 2 .confirmFront) quiet) = some (some .command) ∧
        holder .lineGrant { quiet with line := { quiet.line with asks := [ask63] } } = some (some .ask) ∧
        holder .lineGrant { quiet with rounds := { quiet.rounds with routineDue := false } } = some none ∧
        holder .lineIdleWaitEnd (waits (windowFor .ask base)) = some none ∧
        holder .lineIdleWaitEnd (waits (signing true)) = some (some .command) ∧
        holder .lineIdleWaitEnd (waits (windowFor .command base)) = some none ∧
        holder .lineIdleWaitEnd (waits (polling [⟨0, 0⟩] 0)) = some (some .round) ∧
        holder .lineIdleWaitEnd (waits (windowFor .round base)) = some none ∧
        (let cut := polling [⟨0, 0⟩] 0
         holder .lineIdleWaitEnd (waits { cut with rounds := { cut.rounds with count := 96 } }) = some none ∧
          seen (fun s => (s.line.phase, s.rounds.stack.length, s.rounds.count))
            (exec .lineIdleWaitEnd (waits { cut with rounds := { cut.rounds with taken := some ⟨1, true⟩ } })) =
              some (.idleWait, 0, 0))) := by decide +kernel

theorem witness_LineRestarted :
    res .lineRestart 0x39 [] lastSecond = some 0 ∧ res .lineRestart 0x39 [] un = some 0 ∧ res .lineRestart 0x39 [] (signing true) = some 0 ∧
      after (fun y => (y.inFlight.isSome, y.cmdQueue.length)) .lineRestart (rq 0x39 []) (signing true) =
        some (false, 2) := by decide +kernel

/-- A restart with an ask and a command held, lanes DARK: the counts posted; SIGN, CALL, START_PASS, RESET_POINT wanted again. -/
theorem test_restart_reissues :
    (let y (s : State) : Yard :=
       { s.yard with
         inFlight := (signing true).yard.inFlight
         lanes := s.yard.lanes.map (fun l => { l with dark := true, reservations := [] })
         waits := [], points := s.yard.points.map (fun q => if q.id = .wash 1 then { q with state := .occupied } else q) }
     let s : State := { signing true with yard := y manned, line := { (signing true).line with asks := [ask63] } }
     after (fun z => (posted z, z.lanes.map Lane.dark, z.cmdQueue.drop 2 |>.map LineCommand.order)) .lineRestart (rq 0x39 []) s =
       some ([⟨.askResult, 9, 5, 0⟩, ⟨.lineRestarted, 0, 1, 1⟩], [false, false], [.call 14, .startPass 2])) ∧
      after (fun z => z.cmdQueue.drop 2 |>.map LineCommand.order) .lineRestart (rq 0x39 []) (pointIn (.island 1) .recovering manned) =
        some [.resetPoint] := by decide +kernel

/-! ### Witnesses: reports -/

/-- Failures at 1 and 2, LOST already; each state before a VALID answer; each fate of a report. -/
theorem witness_StationHealthAndReports :
    (∀ x ∈ [(1, StationState.alive, StationState.alive), (2, .alive, .lost), (2, .unknown, .lost), (3, .lost, .lost)],
      ((on (Yard.setStation 2 (fun t => { t with failures := x.1, state := x.2.1 })) base).yard.stationFailure base.env
        2).station? 2 |>.map Station.state |> (· = some x.2.2)) ∧
      (∀ st ∈ [StationState.unknown, .alive, .lost],
        (((stationIn 2 st base).yard.stationValid base.env 2).station? 2).map Station.state = some .alive) ∧
      (manned.yard.routeReport manned.env 9 (report .left 10 0) = manned.yard) ∧
      (((manned.yard.routeReport manned.env 1 (report .left 10 0)).bus? 10).map Bus.position = some .outside) ∧
      (((manned.yard.routeReport manned.env 1 (report .entered 10 0)).bus? 10).map Bus.position = some .loose) ∧
      (((manned.yard.routeReport manned.env 2 (report .entered 10 0)).bus? 10).map Bus.position = some (.inLane 1)) ∧
      (let after1 := manned.yard.routeReport manned.env 1 (report .left 10 0)
       after1.routeReport manned.env 1 (report .left 10 0) = after1) ∧
      ((manned.yard.routeReport manned.env 1 (report .arrived 0 0)).notices.tallies.getD 3 0 = 1) ∧
      ((manned.yard.routeReport manned.env 4 (report .fuelDone 0 5)).notices.tallies.getD 3 0 = 0) ∧
      (manned.yard.station? 9 = none) := by decide +kernel

/-- Island 1 DOWN with cause STATION, close pending or not. -/
def lostPoint (closePending : Bool) : State :=
  on (Yard.setPoint (.island 1) (fun q =>
    { q with state := .down, downCause := some .station, bus := none, closePending })) manned

/-- Stations lost and alive, the owners' part: DARK set and cleared; a point DOWN, its turn returned and its claim released; back up. -/
theorem witness_owners_of_stations :
    ((manned.yard.laneDark 1).lane? 1).map Lane.dark = some true ∧
      (((laneWith (fun l => { l with dark := true }) manned).yard.laneAlive manned.env 1).lane? 1).map Lane.dark = some false ∧
      (let y := manned.yard.pointStationLost manned.env (.island 1)
       posted y = [⟨.pointDown, 0, 3, 0⟩] ∧ y.points.map Point.state = [.down, .serving] ∧
        (y.turn? 14).map PoolEntry.status = some .waiting ∧ (y.lane? 2).map Lane.release = some none) ∧
      (manned.yard.pointStationLost manned.env (.wash 1)).points.map Point.state = [.calling, .down] ∧
      ((pointIn (.island 1) .closed manned).yard.pointStationLost manned.env (.island 1)).points.map Point.state =
        [.closed, .serving] ∧
      (let y := (lostPoint false).yard.pointStationAlive manned.env (.island 1)
       posted y = [⟨.pointUp, 0, 7, 0⟩] ∧ y.points.map Point.state = [.free, .serving]) ∧
      ((lostPoint true).yard.pointStationAlive manned.env (.island 1)).points.map Point.state = [.closed, .serving] ∧
      ((pointIn (.island 1) .down manned).yard.pointStationAlive manned.env (.island 1)).points.map Point.state =
        [.down, .serving] := by decide +kernel

/-- Table 2-4, from IN_LANE, OUTSIDE and AT_POINT: the position taken, and the codes of POSITION_CORRECTED where it is posted. -/
theorem witness_positions :
    (∀ x ∈ [(11, Position.outside, [(⟨.positionCorrected, 11, 0, 11⟩ : Post)]), (11, .loose, [⟨.positionCorrected, 11, 1, 11⟩]),
        (11, .inLane 1, []), (11, .inLane 2, [⟨.positionCorrected, 11, 12, 11⟩]),
        (11, .atPoint (.wash 1), [⟨.positionCorrected, 11, 51, 11⟩]), (20, .outside, []), (20, .loose, []),
        (20, .inLane 1, [⟨.positionCorrected, 20, 11, 0⟩]), (10, .outside, []), (10, .atPoint (.island 1), []),
        (15, .loose, [⟨.positionCorrected, 15, 1, 51⟩]), (15, .atPoint (.wash 1), [])],
      (let y := manned.yard.reportPosition manned.env false x.1 x.2.1
       posted y = x.2.2 ∧ (y.bus? x.1).map Bus.position = some x.2.1)) := by decide +kernel

/-- The gate: ARRIVED with no home plan, with one, of a bus at work; LEFT by the state of the departure entry, and without one. -/
theorem witness_gate :
    posted (told none (report .arrived 20 0) manned) = [⟨.busArrived, 20, 0, 0⟩, ⟨.noPlan, 20, 0, 0⟩] ∧
      posted (told none (report .arrived 20 0) (on (Yard.setBus 20 (fun b => { b with homePlan := some 7 })) manned)) =
        [⟨.busArrived, 20, 0, 0⟩, ⟨.planFault, 20, 1, 7⟩] ∧
      posted (told none (report .arrived 13 0) manned) = [⟨.busArrived, 13, 1, 0⟩] ∧
      posted (told none (report .left 10 0) manned) = [] ∧
      (∀ x ∈ [(DepartureState.outbound, [(⟨.departed, 10, 0, 5⟩ : Post)], 0), (.waiting, [⟨.unscheduledExit, 10, 0, 5⟩], 0),
          (.late, [⟨.unscheduledExit, 10, 4, 5⟩], 0), (.released, [], 1)],
        (let s := on (fun y =>
           { y with
             waits := []
             departures := [{ slot := 5, bus := 10, state := x.1, mark := 1, noticeSent := false, lapse := none }] }) manned
         let y := told none (report .left 10 0) s
         (posted y, y.departures.length) = x.2)) := by decide +kernel

/-- Bus 13 served at island 1, bus 15 at wash lane 1. -/
def serving : State :=
  on (fun y =>
    ((y.setPoint (.island 1) (fun q => { q with state := .serving, bus := some 13 })).setWait 13 .serving).setTurn 13
      (fun t => { t with status := .serving (.island 1) })) manned

/-- R70's own roundings, a half to the even number; each of R86's cases. -/
theorem witness_ServiceReports :
    ([1874, 1875, 1865, 1866, 5].map wholeUnits = [187, 188, 186, 187, 0]) ∧
      serving.yard.servingAt (.island 1) 13 = true ∧ serving.yard.servingAt (.wash 1) 15 = true ∧
      ((serving.yard.fuelDone serving.env (.island 1) 1875).bus? 13).map Bus.fuelTaken = some 188 ∧
      ((base.yard.fuelDone base.env (.island 1) 5).point? (.island 1)).map Point.state = some .free ∧
      (∀ x ∈ [(1, PointState.clearing), (2, .occupied)],
        (((on (Yard.setPoint (.wash 1) (fun q => { q with passesLeft := x.1 })) serving).yard.washDone serving.env
          (.wash 1)).point? (.wash 1)).map Point.state = some x.2) ∧
      (((frozen serving).yard.washDone serving.env (.wash 1)).bus? 15).map Bus.residue = some 1 ∧
      (((on (Yard.setPoint (.wash 1) (fun q => { q with bus := none })) serving).yard.washDone serving.env
        (.wash 1)).point? (.wash 1)).map Point.state = some .free ∧
      (((on (Yard.setWait 15 .noPlan) serving).yard.washDone serving.env (.wash 1)).point? (.wash 1)).map Point.state =
        some .clearing := by decide +kernel

/-- The notices a report at a point posts, and the points' states and buses after it. -/
def atPoint (p : PointId) (r : Report) (s : State) :
    List Post × List (PointState × Option Nat) :=
  (posted (told (some (.point p)) r s), (told (some (.point p)) r s).points.map (fun q => (q.state, q.bus)))

/-- AT_POINT: the called bus, a qualifying one that takes over, a wrong one, an unknown one; at a FREE, a serving and a CLOSED point. -/
theorem witness_arrivals :
    (let wash := (PointState.serving, some 15)
     let free := on (Yard.setPoint (.island 1) (fun q => { q with state := .free, bus := none, callTimer := none })) manned
     let at1 (f : Nat) (s : State) := atPoint (.island 1) (report .atPoint f 0) s
     (at1 14 manned).2 = [(.occupied, some 14), wash] ∧
      at1 13 manned = ([⟨.turnTakenOver, 13, 0, 14⟩], [(.occupied, some 13), wash]) ∧
      at1 10 manned = ([⟨.wrongBus, 10, 1, 14⟩], [(.calling, some 14), wash]) ∧
      at1 9 manned = ([], [(.calling, some 14), wash]) ∧ at1 13 free = ([], [(.occupied, some 13), wash]) ∧
      at1 10 free = ([⟨.wrongBus, 10, 0, 0⟩], [(.free, none), wash]) ∧
      at1 10 (pointIn (.island 1) .closed manned) = ([⟨.wrongBus, 10, 6, 0⟩], [(.closed, some 14), wash]) ∧
      atPoint (.wash 1) (report .atPoint 15 0) manned = ([], [(.calling, some 14), wash]) ∧
      (let y := told (some (.point (.island 1))) (report .atPoint 13 0) manned
       [13, 14].map (fun f => (y.turn? f).map PoolEntry.status) = [some (.serving (.island 1)), some .waiting] ∧
        [13, 14].map (fun f => (y.bus? f).map Bus.wait) = [some .serving, some .turn])) := by decide +kernel

/-- SERVICE_STARTED in OCCUPIED and elsewhere; faults by kind of point, state, earlier fault and retries. -/
theorem witness_point_faults :
    (∀ x ∈ [(PointState.occupied, PointState.serving), (.free, .free)],
      (atPoint (.wash 1) (report .serviceStarted 15 0) (pointIn (.wash 1) x.1 manned)).2.map Prod.fst = [.calling, x.2]) ∧
      (∀ x ∈ [(PointState.free, (PointState.recovering, (none : Option Nat))), (.serving, (.recovering, none)),
          (.recovering, (.down, none)), (.closed, (.closed, some 13))],
        (atPoint (.island 1) (report .pointFault 0 7) (pointIn (.island 1) x.1 serving)).2.head? = some x.2) ∧
      (atPoint (.island 1) (report .pointFault 0 7) (on (Yard.setPoint (.island 1) (fun q => { q with faults := 1 })) serving)).1 =
        [⟨.pointFault, 13, 7, 1⟩, ⟨.pointDown, 0, 2, 0⟩] ∧
      (∀ x ∈ [(PointState.clearing, (PointState.recovering, (none : Option Nat))), (.serving, (.recovering, some 15)),
          (.recovering, (.down, none)), (.frozen, (.recovering, none)), (.down, (.down, some 15))],
        (atPoint (.wash 1) (report .pointFault 0 7) (pointIn (.wash 1) x.1 manned)).2.getLast? = some x.2) ∧
      (atPoint (.wash 1) (report .pointFault 0 7) (on (Yard.setPoint (.wash 1) (fun q => { q with retries := 3 })) serving)).1 =
        [⟨.pointFault, 15, 7, 1⟩, ⟨.turnDone, 15, 2, 1⟩, ⟨.planFault, 15, 1, 6⟩, ⟨.pointDown, 0, 2, 0⟩] := by decide +kernel

/-- POINT_CLEAR naming no bus, the point's, another; POINT_READY with a bus served, in frost, aborted, none, close pending. -/
theorem witness_point_clear_and_ready :
    (∀ x ∈ [(PointState.clearing, PointState.free), (.serving, .free), (.recovering, .recovering), (.closed, .closed)],
      ([0, 15, 10].map (fun f =>
        (atPoint (.wash 1) (report .pointClear f 0) (pointIn (.wash 1) x.1 manned)).2.getLast?.map Prod.fst) =
          [some x.2, some x.2, some x.1])) ∧
      (let ready (s : State) := atPoint (.wash 1) (report .pointReady 0 0) s
       let resting := pointIn (.wash 1) .recovering manned
       (ready resting).2.getLast? = some (.occupied, some 15) ∧ (ready (frozen resting)).2.getLast? = some (.clearing, some 15) ∧
        (ready (on (Yard.setWait 15 .noPlan) resting)).2.getLast? = some (.clearing, some 15) ∧
        (ready (on (Yard.setPoint (.wash 1) (fun q => { q with bus := none })) resting)).2.getLast? = some (.free, none) ∧
        (ready resting).1 = [⟨.pointUp, 0, 4, 0⟩] ∧ (ready manned).1 = []) ∧
      atPoint (.island 1) (report .pointReady 0 0)
        (on (Yard.setPoint (.island 1) (fun q => { q with state := .recovering, closePending := true })) serving) =
          ([], [(.closed, none), (.serving, some 15)]) := by decide +kernel

/-! ### Witnesses: notices, timers, invariants -/

theorem witness_NoticeRequests :
    (∀ b ∈ [[0], [1, 42, 3], 42 :: ((List.range 42).map (fun i => [i + 1, 0])).flatten], res .noticeMap 0x3C b base = some 0) ∧
      res .noticeMap 0x3C (43 :: (List.replicate 43 [1, 1]).flatten) base = some 2 ∧
      (∀ b ∈ [[1, 0, 1], [1, 43, 1], [1, 1, 4], [2, 1, 1, 1, 2]], res .noticeMap 0x3C b base = some 3) ∧
      base.yard.notices.classes.length = 42 ∧ res .noticeEnable 0x3D [1, 0, 1] base = some 0 ∧
      res .noticeEnable 0x3D [1, 2, 1] base = some 3 ∧ res .noticeTally 0x3E [] base = some 0 := by decide +kernel

/-- 31 and 32 notices queued; a kind of class 0, of a class turned off, and one that is sent. -/
theorem witness_NoticePosted :
    (∀ x ∈ [(31, 32, 0), (32, 32, 255)],
      (let n := Notice.resetDonePin
       let u : Notices := { base.yard.notices with queue := List.replicate x.1 n, lost := 255 }
       let v := u.post 0 .planNote 1 none 0 0
       (v.queue.length, v.lost) = x.2)) ∧
      (∀ c ∈ [0, 2],
        (let u : Notices := { base.yard.notices with classes := List.replicate 42 c }
         (u.post 0 .planNote 1 none 0 0).queue.length = 0)) := by decide +kernel

theorem witness_TimersExpire :
    base.yard.supTimer = some 240 ∧
      shown (fun y => y.fleet.map Bus.age) .supervisionExpiry
        (on (Yard.setBus 10 (fun b => { b with age := 1 })) manned) = some [0, 7, 7, 7, 7, 7, 7, 7, 7, 7, 8] ∧
      (on (fun y => { y with supTimer := none }) base).yard.supTimer = none ∧
      shown (fun y => (y.bus? 16).map Bus.wait) (.holdExpiry 16)
        (on (Yard.setBus 16 (fun b => { b with holdTimer := some 0 })) manned) = some (some .faulted) ∧
      (manned.yard.bus? 16).map Bus.holdTimer = some none ∧ base.yard.bus? 16 = none ∧
      base.rounds.urgentTimer = some 250 ∧ base.rounds.routineTimer = some 2000 ∧
      State.reset.rounds.urgentTimer = none ∧ State.reset.rounds.routineTimer = none := by decide +kernel

/-- A state that is sound and steps: the last second of the day, a frame's end at the front of the queue. -/
theorem witness_EveryStepKeepsTheStateSound :
    ({ lastSecond with pending := [.frameSent] } : State).Sound ∧
      ∃ t, step { lastSecond with pending := [.frameSent] } = .next t := by
  refine ⟨⟨⟨by decide +kernel, ?_, by decide +kernel⟩, witness_DayRollover_bounds, ⟨by decide, by decide, by decide, by decide⟩,
    ⟨?_, ?_, trivial, by decide, fun _ => rfl⟩, witness_rising.1, witness_rising.2, ?_⟩, _, rfl⟩
  · unfold Params.InRange; decide +kernel
  · intro g hg; exact absurd hg (List.not_mem_nil)
  · exact List.Pairwise.nil
  · unfold Layout.stationsRising; decide +kernel

end Sys2Proof.Tests
end

section
/-!
PROOFS. The invariant of every step (O59, O60): each record group's operations keep its part of `State.Sound`, each request's action keeps
the whole of it, and so do the taking of a request and every other event.
-/
namespace Sys2Proof.Machine

/-! ### Rows that take requests -/

/-- A row that takes requests serves the oldest WAITING one. -/
theorem exec_of_requestOf {c : Instr} {q : Request} (h : requestOf c = some q) (s : State) : exec c s = .next (q.serve s) := by
  cases c <;> simp only [requestOf, Option.some.injEq, reduceCtorEq] at h <;> subst h <;> rfl

/-- A request can be taken only where one is WAITING (R182). -/
theorem State.Takes.waiting {s : State} {body : List Byte} (h : s.Takes body) :
    ∃ r, s.link.requests.find? (fun r => !r.answered) = some r ∧ r.body = body := by
  unfold State.Takes State.front? at h
  split at h
  · cases h
  · simpa [Link.waiting?] using h

/-! ### The host link -/

@[simp] theorem markAnswered_length (l : List RequestEntry) : (markAnswered l).length = l.length := by
  induction l with
  | nil => rfl
  | cons r rest ih => unfold markAnswered; split <;> simp [ih]

/-- Where an entry is WAITING the oldest of them becomes ANSWERED, and no other. -/
theorem markAnswered_answered {l : List RequestEntry} {w : RequestEntry} (h : l.find? (fun r => !r.answered) = some w) :
    ((markAnswered l).filter RequestEntry.answered).length = (l.filter RequestEntry.answered).length + 1 := by
  induction l with
  | nil => simp at h
  | cons r rest ih =>
    unfold markAnswered
    cases hr : r.answered with
    | true => simpa [hr] using ih (by simpa [hr] using h)
    | false => simp [hr]

theorem freeAnswered_length_le (l : List RequestEntry) : (freeAnswered l).length ≤ l.length := by
  induction l with
  | nil => exact le_rfl
  | cons r rest ih => unfold freeAnswered; split <;> simp [ih]

/-- One ANSWERED entry is freed, if there is one. -/
theorem freeAnswered_answered (l : List RequestEntry) :
    ((freeAnswered l).filter RequestEntry.answered).length = (l.filter RequestEntry.answered).length - 1 := by
  induction l with
  | nil => rfl
  | cons r rest ih =>
    unfold freeAnswered
    cases hr : r.answered with
    | true => simp [hr]
    | false => simpa [hr] using ih

namespace Link.Bounded

variable {l : Link}

/-- The framer, the frame being sent and the wait for RESET_DONE are free of bounds. -/
theorem same {m : Link} (h : l.Bounded) (hq : m.requests = l.requests) (hr : m.replies = l.replies)
    (ht : m.frameErrors ≤ 65535) : m.Bounded :=
  ⟨hq ▸ h.requests, by unfold Link.busyWaiting; rw [hr]; exact h.busy, ht, by rw [hq, hr]; exact h.oneReplyEach⟩

theorem frameError (h : l.Bounded) : l.frameError.Bounded := h.same rfl rfl (satAdd_le _ _ _)

/-- A body handed on takes room in the request queue, room for a BUSY reply, or counts as a frame error (R182). -/
theorem deliver (body : List Byte) (h : l.Bounded) : (l.deliver body).Bounded := by
  have hq := h.requests
  have hb := h.busy
  have ho := h.oneReplyEach
  unfold Link.deliver
  split
  · next room =>
    refine ⟨?_, hb, h.tally, by simpa using ho⟩
    simp only [Config.requestRoom] at room
    simp only [List.length_append, List.length_cons, List.length_nil]
    omega
  · split
    · next room =>
      refine ⟨hq, ?_, h.tally, by simpa using ho⟩
      simp only [Config.busyRoom] at room
      simp only [Link.busyWaiting, List.filter_append, List.filter_cons, List.filter_nil, List.length_append] at room ⊢
      simp only [if_true, List.length_cons, List.length_nil]
      omega
    · exact h.frameError

theorem received (r : Framer × Received) (h : l.Bounded) : (l.received r).Bounded := by
  have framed : ({ l with framer := r.1 } : Link).Bounded := h.same rfl rfl h.tally
  unfold Link.received
  split
  · exact framed
  · exact framed.frameError
  · exact framed.deliver _

theorem chars : ∀ (cs : List RxChar) {l : Link}, l.Bounded → (l.chars cs).Bounded
  | [], _, h => h
  | _ :: cs, _, h => chars cs (h.received _)

theorem gap (h : l.Bounded) : l.gap.Bounded := h.received _

/-- The taken request's entry and its reply are one more of each. -/
theorem answer (body : List Byte) (r : Reply) {w : RequestEntry} (hw : l.requests.find? (fun r => !r.answered) = some w)
    (h : l.Bounded) : (l.answer body r).Bounded := by
  refine ⟨by simpa [Link.answer] using h.requests, by simpa [Link.answer, Link.busyWaiting] using h.busy, h.tally, ?_⟩
  simp only [Link.answer, markAnswered_answered hw, h.oneReplyEach]
  simp

/-- A reply that begins frees the entry of its request, a BUSY reply none (R185). -/
theorem beginReply (h : l.Bounded) : l.beginReply.Bounded := by
  unfold Link.beginReply
  split
  · next r rest _ _ hr =>
    have hb := h.busy
    have ho := h.oneReplyEach
    unfold Link.busyWaiting at hb
    rw [hr] at hb ho
    cases busy : r.busy with
    | true =>
      refine ⟨h.requests, ?_, h.tally, by simpa [busy] using ho⟩
      simp only [Link.busyWaiting, List.filter_cons, busy, if_true, List.length_cons] at hb ⊢
      omega
    | false =>
      refine ⟨(freeAnswered_length_le _).trans h.requests, by simpa [Link.busyWaiting, busy] using hb, h.tally, ?_⟩
      simp [freeAnswered_answered, ho, busy]
  · exact h

end Link.Bounded

/-! ### Groups of addresses and the round engine -/

theorem Group.contains_iff (g : Group) (a : Nat) : g.contains a = true ↔ a / 2 ^ (6 - g.len) = g.bits := by
  simp [Group.contains]

/-- The halves of a group part its addresses by the next bit (9.3). -/
theorem Group.half_address {g : Group} (hl : g.len < 6) {a : Nat} {b : Nat} (hb : b < 2)
    (h : a / 2 ^ (6 - (g.len + 1)) = 2 * g.bits + b) : g.contains a = true := by
  have e : 6 - g.len = (6 - (g.len + 1)) + 1 := by omega
  rw [Group.contains_iff, e, pow_succ, ← Nat.div_div_eq_div_mul, h]
  omega

theorem Group.contains_of_zeroHalf {g : Group} (hl : g.len < 6) {a : Nat} (h : g.zeroHalf.contains a = true) :
    g.contains a = true :=
  Group.half_address hl (b := 0) (by omega) ((Group.contains_iff _ _).1 h)

theorem Group.contains_of_oneHalf {g : Group} (hl : g.len < 6) {a : Nat} (h : g.oneHalf.contains a = true) :
    g.contains a = true :=
  Group.half_address hl (b := 1) (by omega) ((Group.contains_iff _ _).1 h)

theorem Group.halves_disjoint (g : Group) : g.zeroHalf.Disjoint g.oneHalf := by
  rintro a - ⟨h0, h1⟩
  have e0 := (Group.contains_iff _ _).1 h0
  have e1 := (Group.contains_iff _ _).1 h1
  simp only [Group.zeroHalf, Group.oneHalf] at e0 e1
  omega

/-- What is disjoint from a group is disjoint from a part of it. -/
theorem Group.Disjoint.part {g h k : Group} (hd : g.Disjoint h) (part : ∀ a, k.contains a = true → g.contains a = true) :
    k.Disjoint h :=
  fun a ha hk => hd a ha ⟨part a hk.1, hk.2⟩

theorem Group.Valid.halves {g : Group} (h : g.Valid) (hl : g.len < 6) : g.zeroHalf.Valid ∧ g.oneHalf.Valid := by
  obtain ⟨-, hb⟩ := h
  have : 2 ^ (g.len + 1) = 2 * 2 ^ g.len := by rw [pow_succ]; ring
  constructor <;> refine ⟨Nat.succ_le_of_lt hl, ?_⟩ <;> simp only [Group.zeroHalf, Group.oneHalf, this] <;> omega

theorem stackBelow_length : ∀ {l : List Group} {n : Nat}, stackBelow n l → l.length ≤ n
  | [], _, _ => Nat.zero_le _
  | g :: rest, n, ⟨h1, h2, h3⟩ => by
    have := stackBelow_length h3
    rw [List.length_cons]
    omega

theorem stackBelow_mono : ∀ {l : List Group} {m n : Nat}, m ≤ n → stackBelow m l → stackBelow n l
  | [], _, _, _, _ => trivial
  | _ :: _, _, _, hmn, ⟨h1, h2, h3⟩ => ⟨h1, h2.trans hmn, h3⟩

/-- The stack without its top has the shape still. -/
theorem stackShape_tail {g : Group} {rest : List Group} (h : stackShape (g :: rest)) : stackShape rest := by
  cases rest with
  | nil => trivial
  | cons k rest =>
    obtain ⟨-, -, below⟩ := h
    exact stackBelow_mono (Nat.sub_le _ _) below

namespace Rounds.Sound

variable {r : Rounds}

/-- Due flags, timers, counts and the TAKEN owed are free of bounds. -/
theorem same {t : Rounds} (h : r.Sound) (hs : t.stack = r.stack) (ha : t.active = r.active) : t.Sound :=
  ⟨hs ▸ h.valid, hs ▸ h.disjoint, hs ▸ h.shape, hs ▸ h.room, by rw [hs, ha]; exact h.idleEmpty⟩

/-- An empty stack is sound, with a round or without. -/
theorem ofEmpty (h : r.stack = []) : r.Sound :=
  ⟨by simp [h], by simp [h], by simp [h, stackShape], by simp [h], fun _ => h⟩

theorem idle (r : Rounds) : r.idle.Sound := ofEmpty rfl

/-- The stack of a round with its top popped. -/
theorem pop (h : r.Sound) : r.pop.Sound := by
  unfold Rounds.pop
  split
  · exact idle r
  · next g rest hd =>
    obtain ⟨top, hs⟩ : ∃ top, r.stack = top :: g :: rest := by
      cases hr : r.stack with
      | nil => simp [hr] at hd
      | cons top tail => exact ⟨top, by rw [← hd, hr]; rfl⟩
    have hv := h.valid
    have hdis := h.disjoint
    have hroom := h.room
    have hshape := h.shape
    rw [hs] at hv hdis hroom hshape
    refine ⟨fun k hk => hv k (List.mem_cons_of_mem _ hk), (List.pairwise_cons.1 hdis).2, stackShape_tail hshape,
      (Nat.le_succ _).trans hroom, fun ha => ?_⟩
    have := h.idleEmpty ha
    simp [hs] at this

/-- The top of the stack of a round split in its halves (R165). -/
theorem split {g : Group} {rest : List Group} (h : r.Sound) (hs : r.stack = g :: rest) (hl : g.len < 6) : (r.split g).Sound := by
  have hv := h.valid
  have hdis := h.disjoint
  have hshape := h.shape
  rw [hs] at hv hdis hshape
  obtain ⟨top, tail⟩ := List.pairwise_cons.1 hdis
  obtain ⟨v0, v1⟩ := (hv g List.mem_cons_self).halves hl
  have stack : (r.split g).stack = g.zeroHalf :: g.oneHalf :: rest := by simp [Rounds.split, hs]
  have below : stackBelow g.len rest := hshape
  refine ⟨?_, ?_, ?_, ?_, ?_⟩ <;> rw [stack]
  · intro k hk
    rcases List.mem_cons.1 hk with rfl | hk
    · exact v0
    rcases List.mem_cons.1 hk with rfl | hk
    · exact v1
    · exact hv k (List.mem_cons_of_mem _ hk)
  · refine List.pairwise_cons.2 ⟨fun k hk => ?_, List.pairwise_cons.2 ⟨fun k hk => ?_, tail⟩⟩
    · rcases List.mem_cons.1 hk with rfl | hk
      · exact g.halves_disjoint
      · exact (top k hk).part (fun _ => Group.contains_of_zeroHalf hl)
    · exact (top k hk).part (fun _ => Group.contains_of_oneHalf hl)
  · exact ⟨Nat.succ_pos _, le_rfl, below⟩
  · have := stackBelow_length below
    simp only [List.length_cons]
    omega
  · intro ha
    have := h.idleEmpty ha
    simp [hs] at this

/-- A round begins with the all-group (R161). -/
theorem begun (c : RoundClass) (h : r.stack = [Group.all]) (ha : r.active = some c) : r.Sound :=
  ⟨by simp [h, Group.all, Group.Valid], by simp [h], by simp [h, stackShape, stackBelow], by simp [h], by simp [ha]⟩

theorem restarted (mode : YardMode) (r : Rounds) : (r.restarted mode).Sound := by
  cases mode <;> exact ofEmpty rfl

theorem lapse (p : Params) (c : RoundClass) (h : r.Sound) : (r.lapse p c).Sound := by
  cases c <;> unfold Rounds.lapse <;> dsimp only <;> split <;> exact h.same rfl rfl

end Rounds.Sound
end Sys2Proof.Machine
end

section
/-!
PROOFS. The parts of `State.Sound` (O59): parameters, the notice unit, the yard's record maps, and a part of the state replaced.
-/
namespace Sys2Proof.Machine

/-! ### Parameters -/

/-- A parameter set to a value of its range reads as that value, and every other one as before (R8). -/
theorem Params.values_set {number v : Nat} (p : Params) (h : paramOk number v = true) (i : Nat) :
    (p.set number v).values.getD i 0 = if i + 1 = number then v else p.values.getD i 0 := by
  unfold paramOk at h
  split at h
  case h_8 =>
    have hv : v = 0 ∨ v = 1 := by
      have := of_decide_eq_true h
      omega
    rcases hv with rfl | rfl <;> rcases i with _ | _ | _ | _ | _ | _ | _ | _ | i <;> simp [Params.set, Params.values]
  case h_14 => cases h
  all_goals
    rcases i with _ | _ | _ | _ | _ | _ | _ | _ | _ | _ | _ | _ | _ | i <;> simp [Params.set, Params.values]

theorem Params.InRange.set {number v : Nat} {p : Params} (hp : p.InRange) (h : paramOk number v = true) :
    (p.set number v).InRange := by
  intro i hi
  rw [Params.values_set p h]
  split
  · next e => rw [e]; exact h
  · exact hp i hi

theorem Params.InRange.setAll : ∀ {pairs : List (Nat × Nat)} {p : Params}, p.InRange →
    (∀ v ∈ pairs, paramOk v.1 v.2 = true) → (pairs.foldl (fun p v => p.set v.1 v.2) p).InRange
  | [], _, hp, _ => hp
  | v :: _, _, hp, h =>
    Params.InRange.setAll (p := Params.set _ v.1 v.2) (hp.set (h v List.mem_cons_self))
      (fun w hw => h w (List.mem_cons_of_mem _ hw))

theorem Params.reset_inRange : Params.reset.InRange := by unfold Params.InRange; decide

/-! ### The notice unit -/

theorem Notices.cleared_inForm {u : Notices} (h : u.InForm) :
    ({ Notices.cleared with classes := u.classes, enable1 := u.enable1, enable2 := u.enable2, enable3 := u.enable3 } :
      Notices).InForm := by
  obtain ⟨h1, h2, -⟩ := h
  exact ⟨h1, h2, rfl, by simp [Notices.cleared], by simp [Notices.cleared], Nat.zero_le _⟩

theorem Notices.InForm.yardReset {u : Notices} (h : u.InForm) : u.yardReset.InForm :=
  (Notices.cleared_inForm h).post _ _ _ _ _ _

theorem Notices.reset_inForm : Notices.reset.InForm := by
  refine ⟨rfl, ?_, rfl, ?_, ?_, ?_⟩ <;> decide

/-- The classes of some kinds changed to classes of the part. -/
theorem setClasses_inRange : ∀ (pairs : List (Nat × Nat)) (l : List Nat), (∀ p ∈ pairs, p.2 ≤ 3) → (∀ c ∈ l, c ≤ 3) →
    (pairs.foldl (fun c p => c.set (p.1 - 1) p.2) l).length = l.length ∧
      ∀ c ∈ pairs.foldl (fun c p => c.set (p.1 - 1) p.2) l, c ≤ 3
  | [], l, _, hl => ⟨rfl, hl⟩
  | p :: pairs, l, hp, hl => by
    have set : ∀ c ∈ l.set (p.1 - 1) p.2, c ≤ 3 := fun c hc =>
      (List.mem_or_eq_of_mem_set hc).elim (hl c) (fun e => e ▸ hp p List.mem_cons_self)
    obtain ⟨length, classes⟩ := setClasses_inRange pairs _ (fun q hq => hp q (List.mem_cons_of_mem _ hq)) set
    exact ⟨by simpa using length, classes⟩

/-! ### The yard -/

/-- The notice unit changed alone. -/
theorem Yard.Bounded.withNotices {p : Params} {y : Yard} {u : Notices} (h : y.Bounded p) (hu : u.InForm) :
    ({ y with notices := u } : Yard).Bounded p :=
  ⟨h.mapRising, h.records, h.buses, h.pool, hu, h.listOrder, h.oneEntry, h.linked, h.lanesRising, h.pointsRising, h.stationsRising⟩

/-- A yard with no record of any kind. -/
theorem Yard.emptied_bounded {p : Params} {u : Notices} (hu : u.InForm) : (Yard.emptied u).Bounded p := by
  refine ⟨?_, ?_, ?_, ?_, hu, ?_, ?_, ?_, ?_, ?_, ?_⟩ <;>
    simp [Yard.emptied, Yard.poolUsed, LanesRising, PointsRising]

theorem upsert_length_le {α : Type} (key : α → Nat) (x : α) : ∀ l : List α, (upsert key x l).length ≤ l.length + 1
  | [] => le_rfl
  | _ :: rest => by
    have ih := upsert_length_le key x rest
    unfold upsert
    repeat' split
    · simp
    · simp
    · simpa using ih

/-- A record written under its key replaces one of the same key, and no other. -/
theorem upsert_keeps_keys {α : Type} (key : α → Nat) (x : α) : ∀ (l : List α), ∀ k ∈ l.map key, k ∈ (upsert key x l).map key
  | [], _, hk => absurd hk (by simp)
  | y :: rest, k, hk => by
    unfold upsert
    repeat' split
    · exact List.mem_cons_of_mem _ hk
    · next e => simpa [e] using hk
    · rcases List.mem_cons.1 hk with rfl | hk
      · exact List.mem_cons_self
      · exact List.mem_cons_of_mem _ (upsert_keeps_keys key x rest k hk)

/-- A bus enrolled with the values of Table 2-1 (R16). -/
theorem Yard.Bounded.enrol {p : Params} {y : Yard} {b : Bus} (h : y.Bounded p) (hroom : y.fleet.length < 192)
    (hb : b.Bounded p) : ({ y with fleet := upsert Bus.fleet b y.fleet } : Yard).Bounded p := by
  refine ⟨upsert_rising h.mapRising, (upsert_length_le _ _ _).trans hroom, fun c hc => ?_, h.pool, h.notices, h.listOrder,
    h.oneEntry, fun d hd => upsert_keeps_keys _ _ _ _ (h.linked d hd), h.lanesRising, h.pointsRising, h.stationsRising⟩
  rcases mem_upsert hc with rfl | hc
  · exact hb
  · exact h.buses c hc

/-- The changes of a BUS_SET reach no bounded field (R17). -/
theorem Bus.apply_bounded {p : Params} : ∀ (changes : List BusChange) (b : Bus),
    (changes.foldl Bus.apply b).fleet = b.fleet ∧ (b.Bounded p → (changes.foldl Bus.apply b).Bounded p)
  | [], _ => ⟨rfl, id⟩
  | c :: changes, b => by
    obtain ⟨number, bounded⟩ := Bus.apply_bounded changes (b.apply c)
    refine ⟨number.trans (by cases c <;> rfl), fun h => bounded ?_⟩
    cases c <;> exact ⟨h.age, h.missedCalls, h.fuelTaken⟩

/-- Records built from definitions stand in the order of the definitions (R7). -/
theorem Yard.Bounded.built {p : Params} {y : Yard} {l : Layout} (h : y.Bounded p) (hl : l.lanesRising) (hp : l.pointsRising)
    (ht : l.stationsRising) : (y.built l).Bounded p := by
  refine ⟨h.mapRising, h.records, h.buses, h.pool, h.notices, h.listOrder, h.oneEntry, h.linked, ?_, ?_, ?_⟩
  · exact (List.map_map (f := LaneDef.build) (g := Lane.number) (l := l.lanes)).symm ▸ hl
  · exact (List.map_map (f := PointDef.build) (g := Point.id) (l := l.points)).symm ▸ hp
  · exact (List.map_map (f := StationDef.build l) (g := Station.address) (l := l.stations)).symm ▸ ht

/-- Everything of a LINE_RESTART in the yard (R156, R157). -/
theorem Yard.Bounded.askResults {e : Env} (code : Nat) (asks : List Ask) {y : Yard} (h : y.Bounded e.params) :
    (asks.foldl (fun y a => y.askResult e a code 0) y).Bounded e.params :=
  Yard.Bounded.foldl (fun _ a hz => hz.askResult a code 0) asks h

/-! ### Parts of the state -/

namespace State.Sound

variable {s : State}

theorem withYard {y : Yard} (h : s.Sound) (hy : y.Bounded s.env.params) : ({ s with yard := y } : State).Sound :=
  ⟨h.env, hy, h.link, h.rounds, h.lanes, h.points, h.stations⟩

theorem withLink {l : Link} (h : s.Sound) (hl : l.Bounded) : ({ s with link := l } : State).Sound :=
  ⟨h.env, h.yard, hl, h.rounds, h.lanes, h.points, h.stations⟩

theorem withLine (l : Line) (h : s.Sound) : ({ s with line := l } : State).Sound :=
  ⟨h.env, h.yard, h.link, h.rounds, h.lanes, h.points, h.stations⟩

theorem withRounds {r : Rounds} (h : s.Sound) (hr : r.Sound) : ({ s with rounds := r } : State).Sound :=
  ⟨h.env, h.yard, h.link, hr, h.lanes, h.points, h.stations⟩

theorem withLayout {l : Layout} (h : s.Sound) (hl : l.lanesRising) (hp : l.pointsRising) (ht : l.stationsRising) :
    ({ s with layout := l } : State).Sound :=
  ⟨h.env, h.yard, h.link, h.rounds, hl, hp, ht⟩

theorem withPending (p : List Instr) (h : s.Sound) : ({ s with pending := p } : State).Sound :=
  ⟨h.env, h.yard, h.link, h.rounds, h.lanes, h.points, h.stations⟩

/-- The state after a pin reset (R13). -/
theorem reset : State.reset.Sound := by
  refine ⟨⟨by decide, Params.reset_inRange, rfl⟩, Yard.emptied_bounded Notices.reset_inForm, ?_, .ofEmpty rfl, ?_, ?_, ?_⟩
  · constructor <;> decide
  all_goals simp [State.reset, Layout.reset, Layout.lanesRising, Layout.pointsRising, Layout.stationsRising, LanesRising,
    PointsRising]

/-- An event that RSTN held low keeps from happening. -/
theorem powered {g : State → State} (h : s.Sound) (hg : (g s).Sound) : (s.powered g).Sound := by
  unfold State.powered
  split
  · exact h
  · exact hg

/-- An event of the yard alone. -/
theorem yardEvent {g : Env → Yard → Yard} (h : s.Sound) (hg : (g s.env s.yard).Bounded s.env.params) : (s.yardEvent g).Sound :=
  h.powered (h.withYard hg)

end State.Sound
end Sys2Proof.Machine
end

section
/-!
PROOFS. The state sound after every step (O59, O60): each request's action, the taking of a request, and every other event.
-/
namespace Sys2Proof.Machine

/-! ### The actions of requests -/

/-- A lane definition carried by a body is of a lane of the part (R3). -/
theorem laneDefOf_inRange {b : List Byte} {d : LaneDef} (h : laneDefOf b = some d) : 1 ≤ d.number ∧ d.number ≤ 24 := by
  unfold laneDefOf at h
  split at h
  · split at h
    · next hr =>
      cases h
      simpa [laneOk] using hr.1
    · cases h
  · cases h

/-- A service point field names a point of the part (11.6). -/
theorem pointOf_wellFormed {kind number : Nat} {p : PointId} (h : pointOf kind number = some p) : p.wellFormed = true := by
  unfold pointOf at h
  split at h
  · next hr => cases h; simpa [PointId.wellFormed] using hr.2
  · split at h
    · next hr => cases h; simpa [PointId.wellFormed] using hr.2
    · cases h

/-- A point definition carried by a body is of a point of the part (R4). -/
theorem pointDefOf_wellFormed {b : List Byte} {d : PointDef} (h : pointDefOf b = some d) : d.id.wellFormed = true := by
  unfold pointDefOf at h
  split at h
  · cases h
  · next id hid =>
    have hw := pointOf_wellFormed hid
    split at h
    · cases h
    · split at h
      · obtain ⟨o, -, rfl⟩ := Option.map_eq_some_iff.1 h
        exact hw
      · split at h
        · cases h; exact hw
        · cases h

/-- A bus enrolled is in its bounds (Table 2-1). -/
theorem enrolOf_bounded {b : List Byte} {bus : Bus} (p : Params) (h : enrolOf b = some bus) : bus.Bounded p := by
  unfold enrolOf at h
  split at h
  · split at h
    · cases h; exact ⟨Nat.zero_le _, Nat.zero_le _, Nat.zero_le _⟩
    · cases h
  · cases h

namespace State.Sound

variable {s : State}

/-- A request that changes the yard alone. -/
theorem done {y : Yard} (h : s.Sound) (hy : y.Bounded s.env.params) : (s.done y).1.Sound := h.withYard hy

theorem defineLane (b : List Byte) (h : s.Sound) : (defineLane b s).1.Sound := by
  unfold Machine.defineLane
  split
  · exact h
  · split
    · next d hd => exact h.withLayout (LanesRising.upsert (laneDefOf_inRange hd) h.lanes) h.points h.stations
    · exact h

theorem removeLane (b : List Byte) (h : s.Sound) : (removeLane b s).1.Sound := by
  unfold Machine.removeLane
  dsimp only
  split
  · exact h
  · split
    · exact h.withLayout (LanesRising.filter _ h.lanes) h.points h.stations
    · exact h

theorem definePoint (b : List Byte) (h : s.Sound) : (definePoint b s).1.Sound := by
  unfold Machine.definePoint
  split
  · exact h
  · split
    · next d hd => exact h.withLayout h.lanes (PointsRising.upsert (pointDefOf_wellFormed hd) h.points) h.stations
    · exact h

theorem removePoint (b : List Byte) (h : s.Sound) : (removePoint b s).1.Sound := by
  unfold Machine.removePoint
  split
  · exact h
  · split
    · exact h.withLayout h.lanes (PointsRising.filter _ h.points) h.stations
    · exact h

theorem defineStation (b : List Byte) (h : s.Sound) : (defineStation b s).1.Sound := by
  unfold Machine.defineStation
  dsimp only
  split
  · exact h
  · split
    · exact h
    · split
      · exact h
      · exact h.withLayout h.lanes h.points (upsert_rising h.stations)

theorem removeStation (b : List Byte) (h : s.Sound) : (removeStation b s).1.Sound := by
  unfold Machine.removeStation
  dsimp only
  split
  · exact h
  · split
    · exact h.withLayout h.lanes h.points (h.stations.sublist (List.filter_sublist.map _))
    · exact h

theorem intoService (h : s.Sound) : s.intoService.Sound :=
  ⟨h.env, h.yard.built h.lanes h.points h.stations, h.link, h.rounds.same rfl rfl, h.lanes, h.points, h.stations⟩

theorem commitLayout (b : List Byte) (h : s.Sound) : (commitLayout b s).1.Sound := by
  unfold Machine.commitLayout
  split
  · exact h
  · exact h.intoService

theorem setTiming (b : List Byte) (h : s.Sound) : (setTiming b s).1.Sound := by
  unfold Machine.setTiming
  dsimp only
  split
  · next hp =>
    rw [Bool.and_eq_true, List.all_eq_true] at hp
    obtain ⟨clock, params, plan⟩ := h.env
    exact ⟨⟨clock, params.setAll hp.1, plan⟩, h.yard.retime _ _, h.link, h.rounds, h.lanes, h.points, h.stations⟩
  · exact h

theorem setClock (b : List Byte) (h : s.Sound) : (setClock b s).1.Sound := by
  unfold Machine.setClock
  split
  · next hc => exact ⟨⟨hc, h.env.2⟩, h.yard, h.link, h.rounds, h.lanes, h.points, h.stations⟩
  · exact h

theorem yardReset (h : s.Sound) : s.yardReset.Sound :=
  ⟨⟨Nat.zero_le _, Params.reset_inRange, h.env.2.2⟩, Yard.emptied_bounded h.yard.notices.yardReset,
    h.link.same rfl rfl (Nat.zero_le _), reset.rounds, reset.lanes, reset.points, reset.stations⟩

theorem enrolBus (b : List Byte) (h : s.Sound) : (enrolBus b s).1.Sound := by
  unfold Machine.enrolBus
  split
  · exact h
  · next bus hb =>
    split
    · exact h
    · split
      · exact h
      · next room => exact h.done (h.yard.enrol (Nat.lt_of_not_le room) (enrolOf_bounded _ hb))

theorem setBusFields (b : List Byte) (h : s.Sound) : (setBusFields b s).1.Sound := by
  unfold Machine.setBusFields
  dsimp only
  repeat' split
  any_goals exact h
  next changes _ _ _ _ _ _ =>
    exact h.done (h.yard.setBus _ _ (fun b => (Bus.apply_bounded (p := s.env.params) changes b).1)
      (fun b => (Bus.apply_bounded changes b).2))

theorem queryBus (b : List Byte) (h : s.Sound) : (queryBus b s).1.Sound := by
  unfold Machine.queryBus
  dsimp only
  repeat' split
  all_goals exact h

theorem listBuses (b : List Byte) (h : s.Sound) : (listBuses b s).1.Sound := by
  unfold Machine.listBuses
  split <;> exact h

theorem withdrawBus (b : List Byte) (h : s.Sound) : (withdrawBus b s).1.Sound := by
  unfold Machine.withdrawBus
  dsimp only
  repeat' split
  any_goals exact h
  exact h.done (h.yard.tearDown _)

theorem writePlan (b : List Byte) (h : s.Sound) : (writePlan b s).1.Sound := by
  unfold Machine.writePlan
  dsimp only
  repeat' split
  any_goals exact h
  next hr =>
    obtain ⟨clock, params, plan⟩ := h.env
    exact ⟨⟨clock, params, PlanStore.wf_writeAll hr.1 plan⟩, h.yard, h.link, h.rounds, h.lanes, h.points, h.stations⟩

theorem readPlan (b : List Byte) (h : s.Sound) : (readPlan b s).1.Sound := by
  unfold Machine.readPlan
  dsimp only
  split <;> exact h

theorem startPlan (b : List Byte) (h : s.Sound) : (startPlan b s).1.Sound := by
  unfold Machine.startPlan
  dsimp only
  repeat' split
  any_goals exact h
  exact h.withYard (h.yard.planStart _ _)

theorem resumePlan (b : List Byte) (h : s.Sound) : (resumePlan b s).1.Sound := by
  unfold Machine.resumePlan
  dsimp only
  repeat' split
  any_goals exact h
  exact h.withYard (h.yard.advance _ _)

theorem abortPlanOf (b : List Byte) (h : s.Sound) : (abortPlanOf b s).1.Sound := by
  unfold Machine.abortPlanOf
  dsimp only
  repeat' split
  any_goals exact h
  exact h.done (h.yard.abortPlan _)

theorem queryQueue (b : List Byte) (h : s.Sound) : (queryQueue b s).1.Sound := by
  unfold Machine.queryQueue
  dsimp only
  split <;> exact h

theorem closeNamed (b : List Byte) (h : s.Sound) : (closeNamed b s).1.Sound := by
  unfold Machine.closeNamed
  repeat' split
  any_goals exact h
  exact h.done (h.yard.hostClose _)

theorem openNamed (b : List Byte) (h : s.Sound) : (openNamed b s).1.Sound := by
  unfold Machine.openNamed
  repeat' split
  any_goals exact h
  next hy => exact h.done (h.yard.hostOpen hy)

theorem setFrostOn (b : List Byte) (h : s.Sound) : (setFrostOn b s).1.Sound := by
  unfold Machine.setFrostOn
  split
  · exact h
  · refine h.done ?_
    split
    · exact h.yard
    · exact h.yard.frostOn

theorem setFrostOff (b : List Byte) (h : s.Sound) : (setFrostOff b s).1.Sound := by
  refine h.done ?_
  split
  · exact h.yard.frostOff
  · exact h.yard

/-- A request about a lane: what it does to a lane of the layout keeps the state sound. -/
theorem onLane {act : Lane → List Byte → State → State × Reply} (at_ : Nat) (b : List Byte) (h : s.Sound)
    (hact : ∀ l, (act l b s).1.Sound) : (onLane at_ act b s).1.Sound := by
  unfold Machine.onLane
  repeat' split
  any_goals exact h
  exact hact _

theorem queryLane (b : List Byte) (h : s.Sound) : (queryLane b s).1.Sound := by
  unfold Machine.queryLane
  split
  · exact h
  · exact h.onLane 3 b (fun _ => h)

theorem queryWaits (b : List Byte) (h : s.Sound) : (queryWaits b s).1.Sound := by
  unfold Machine.queryWaits
  split <;> exact h

theorem holdLane (b : List Byte) (h : s.Sound) : (holdLane b s).1.Sound := by
  refine h.onLane 2 b (fun l => ?_)
  split
  · exact h
  · exact h.done ((h.yard.setLane _ _ (by intro l; rfl)).updateSign _)

theorem unholdLane (b : List Byte) (h : s.Sound) : (unholdLane b s).1.Sound := by
  refine h.onLane 2 b (fun l => ?_)
  split
  · exact h
  · refine h.done ?_
    have hy := (h.yard.setLane l.number (fun l => { l with hold := l.hold - 1 }) (fun _ => rfl)).updateSign l.number
    split
    · exact hy.rerunWaits.raise
    · exact hy

theorem closeLane (b : List Byte) (h : s.Sound) : (closeLane b s).1.Sound := by
  refine h.onLane 2 b (fun l => ?_)
  repeat' split
  any_goals exact h
  exact h.done ((h.yard.setLane _ _ (by intro l; rfl)).updateSign _)

theorem openLane (b : List Byte) (h : s.Sound) : (openLane b s).1.Sound := by
  refine h.onLane 2 b (fun l => ?_)
  split
  · exact h.done ((h.yard.setLane _ _ (by intro l; rfl)).updateSign _).rerunWaits
  · exact h

theorem forceLane (b : List Byte) (h : s.Sound) : (forceLane b s).1.Sound :=
  h.onLane 2 b (fun _ => h.done (h.yard.setLane _ _ (by intro l; rfl)))

theorem setLaneList (b : List Byte) (h : s.Sound) : (setLaneList b s).1.Sound := by
  unfold Machine.setLaneList
  dsimp only
  repeat' split
  any_goals exact h
  exact h.done (h.yard.laneSet _ _)

theorem shuntBus (b : List Byte) (h : s.Sound) : (shuntBus b s).1.Sound := by
  unfold Machine.shuntBus
  dsimp only
  repeat' split
  any_goals exact h
  exact h.done (h.yard.startShunt _ _ _)

theorem addSlotOf (b : List Byte) (h : s.Sound) : (addSlotOf b s).1.Sound := by
  unfold Machine.addSlotOf
  dsimp only
  split
  · exact h
  · split
    · exact h
    · next known =>
      split
      · exact h
      · next fresh =>
        obtain ⟨bus, hb⟩ := Option.ne_none_iff_exists'.1 (by simpa using known)
        exact h.done (h.yard.addSlot _ _ (Yard.mem_numbers hb) (by simpa using fresh))

theorem removeSlotOf (b : List Byte) (h : s.Sound) : (removeSlotOf b s).1.Sound := by
  unfold Machine.removeSlotOf
  dsimp only
  repeat' split
  any_goals exact h
  exact h.done (h.yard.removeSlot _)

theorem moveSlotOf (b : List Byte) (h : s.Sound) : (moveSlotOf b s).1.Sound := by
  unfold Machine.moveSlotOf
  dsimp only
  repeat' split
  any_goals exact h
  exact h.done (h.yard.moveSlot _ _)

theorem startPullout (b : List Byte) (h : s.Sound) : (startPullout b s).1.Sound := by
  unfold Machine.startPullout
  split
  · exact h
  · exact h.done (h.yard.same rfl le_rfl rfl rfl rfl rfl rfl)

theorem stopPullout (b : List Byte) (h : s.Sound) : (stopPullout b s).1.Sound := by
  unfold Machine.stopPullout
  split
  · exact h.done (h.yard.same rfl le_rfl rfl rfl rfl rfl rfl)
  · exact h

theorem queryDepartures (b : List Byte) (h : s.Sound) : (queryDepartures b s).1.Sound := by
  unfold Machine.queryDepartures
  split <;> exact h

theorem queueAsk (b : List Byte) (h : s.Sound) : (queueAsk b s).1.Sound := by
  unfold Machine.queueAsk
  repeat' split
  any_goals exact h
  exact h.withLine _

theorem restartLine (h : s.Sound) : s.restartLine.Sound :=
  ⟨h.env, (((h.yard.resetLine.askResults 5 s.line.asks).post _ _ _ _ _ _).ownersRestarted), h.link, .restarted _ _, h.lanes,
    h.points, h.stations⟩

theorem queryStations (b : List Byte) (h : s.Sound) : (queryStations b s).1.Sound := by
  unfold Machine.queryStations
  split <;> exact h

theorem mapNotices (b : List Byte) (h : s.Sound) : (mapNotices b s).1.Sound := by
  unfold Machine.mapNotices
  dsimp only
  split
  · next hp =>
    rw [Bool.and_eq_true, List.all_eq_true] at hp
    obtain ⟨classes, inRange, rest⟩ := h.yard.notices
    obtain ⟨length, changed⟩ := setClasses_inRange (mapPairs b) s.yard.notices.classes
      (fun p hm => of_decide_eq_true (Bool.and_eq_true_iff.1 (hp.1 p hm)).2) inRange
    exact h.withYard (h.yard.withNotices ⟨length.trans classes, changed, rest⟩)
  · exact h

theorem enableNotices (b : List Byte) (h : s.Sound) : (enableNotices b s).1.Sound := by
  unfold Machine.enableNotices
  split
  · exact h.withYard (h.yard.withNotices h.yard.notices)
  · exact h

theorem tallyNotices (b : List Byte) (h : s.Sound) : (tallyNotices b s).1.Sound := by
  obtain ⟨classes, inRange, -, -, room, lost⟩ := h.yard.notices
  exact h.withYard (h.yard.withNotices ⟨classes, inRange, rfl, by simp, room, lost⟩)

/-- The action of every request keeps the state sound. -/
theorem act {c : Instr} {q : Request} (hq : requestOf c = some q) (b : List Byte) (h : s.Sound) : (q.act b s).1.Sound := by
  cases c <;> simp only [requestOf, Option.some.injEq, reduceCtorEq] at hq <;> subst hq
  case unknownKind | echo | statusQuery | turnQueryPoints => exact h
  case laneDefine => exact h.defineLane b
  case laneDefineRemove => exact h.removeLane b
  case pointDefine => exact h.definePoint b
  case pointDefineRemove => exact h.removePoint b
  case stationDefine => exact h.defineStation b
  case stationDefineRemove => exact h.removeStation b
  case layoutCommit => exact h.commitLayout b
  case timingSet => exact h.setTiming b
  case clockSet => exact h.setClock b
  case yardReset => exact h.yardReset
  case busEnrol => exact h.enrolBus b
  case busSet => exact h.setBusFields b
  case busQueryRecord => exact h.queryBus b
  case busQueryList => exact h.listBuses b
  case busWithdraw => exact h.withdrawBus b
  case planWrite => exact h.writePlan b
  case planRead => exact h.readPlan b
  case planStart => exact h.startPlan b
  case planResume => exact h.resumePlan b
  case planAbort => exact h.abortPlanOf b
  case turnQueryQueue => exact h.queryQueue b
  case pointClose => exact h.closeNamed b
  case pointOpen => exact h.openNamed b
  case frostSetOn => exact h.setFrostOn b
  case frostSetOff => exact h.setFrostOff b
  case laneQueryLane => exact h.queryLane b
  case laneQueryWaits => exact h.queryWaits b
  case laneHold => exact h.holdLane b
  case laneUnhold => exact h.unholdLane b
  case laneClose => exact h.closeLane b
  case laneOpen => exact h.openLane b
  case laneForce => exact h.forceLane b
  case laneSet => exact h.setLaneList b
  case shunt => exact h.shuntBus b
  case slotAdd => exact h.addSlotOf b
  case slotRemove => exact h.removeSlotOf b
  case slotMove => exact h.moveSlotOf b
  case pulloutStart => exact h.startPullout b
  case pulloutStop => exact h.stopPullout b
  case departQuery => exact h.queryDepartures b
  case lineAsk => exact h.queueAsk b
  case lineRestart => exact h.restartLine
  case stationQuery => exact h.queryStations b
  case noticeMap => exact h.mapNotices b
  case noticeEnable => exact h.enableNotices b
  case noticeTally => exact h.tallyNotices b

/-- The taking of a request: the stages change what the action changes, and the reply is queued as the entry is answered. -/
theorem serve {c : Instr} {q : Request} (hq : requestOf c = some q) (h : s.Sound) : (q.serve s).Sound := by
  unfold Request.serve
  split
  · exact h
  · next body taken =>
    split
    · obtain ⟨w, hw, -⟩ := State.Takes.waiting (body := body) taken
      have kept : (q.result body s).1.Sound ∧ (q.result body s).1.link.requests = s.link.requests := by
        rcases Request.result_fst (q := q) (s := s) (b := body) with e | e <;> rw [e]
        · exact ⟨h, rfl⟩
        · exact ⟨h.act hq body, (Request.act_keeps_link hq body s).1⟩
      exact kept.1.withLink (kept.1.link.answer body _ (w := w) (by rw [kept.2]; exact hw))
    · exact h

/-! ### The events of the links, the line and the clock -/

theorem heldInReset (h : s.Sound) : s.heldInReset.Sound :=
  ⟨h.env, h.yard, h.link.same rfl rfl h.link.tally, h.rounds, h.lanes, h.points, h.stations⟩

theorem beginNotice (h : s.Sound) : s.beginNotice.Sound := by
  unfold State.beginNotice
  split
  · next n rest _ hq =>
    split
    · obtain ⟨classes, inRange, tallies, counts, room, lost⟩ := h.yard.notices
      rw [hq] at room
      exact ⟨h.env, h.yard.withNotices ⟨classes, inRange, tallies, counts, (Nat.le_succ _).trans room, lost⟩,
        h.link.same rfl rfl h.link.tally, h.rounds, h.lanes, h.points, h.stations⟩
    · exact h
  · exact h

theorem secondEnds (h : s.Sound) : s.secondEnds.Sound := by
  obtain ⟨clock, params, plan⟩ := h.env
  unfold State.secondEnds State.rollOver
  split
  · exact ⟨⟨Nat.zero_le _, params, plan⟩, Yard.Bounded.newDay (e := { s.env with clock := 0 }) h.yard.tick, h.link, h.rounds,
      h.lanes, h.points, h.stations⟩
  · next hc =>
    exact ⟨⟨Nat.succ_le_of_lt (Nat.lt_of_not_le hc), params, plan⟩, h.yard.tick, h.link, h.rounds, h.lanes, h.points, h.stations⟩

/-- A poll counts an exchange and sends a frame. -/
theorem poll (c : RoundClass) (h : s.Sound) : (s.poll c).Sound := by
  unfold State.poll
  split
  · exact h
  · exact ⟨h.env, h.yard, h.link, h.rounds.same rfl rfl, h.lanes, h.points, h.stations⟩

theorem beginRound (c : RoundClass) (h : s.Sound) : (s.beginRound c).Sound := by
  unfold State.beginRound
  exact poll c (h.withRounds (.begun c rfl rfl))

theorem cutRound (c : RoundClass) (h : s.Sound) : (s.cutRound c).Sound :=
  ⟨h.env, h.yard.post _ _ _ _ _ _, h.link, .idle _, h.lanes, h.points, h.stations⟩

theorem sendTaken (t : TakenOwed) (h : s.Sound) : (s.sendTaken t).Sound := by
  have counted : ({ s.rounds with count := s.rounds.count + 1, taken := none } : Rounds).Sound := h.rounds.same rfl rfl
  refine ⟨h.env, h.yard, h.link, ?_, h.lanes, h.points, h.stations⟩
  unfold State.sendTaken
  dsimp only
  split
  · exact counted.pop
  · exact counted

theorem roundGoesOn (h : s.Sound) : s.roundGoesOn.Sound := by
  unfold State.roundGoesOn
  split
  · exact h.sendTaken _
  · split
    · exact h.cutRound _
    · exact h.poll _
  · exact h.withLine _

theorem pollGarbled {g : Group} {rest : List Group} (hs : s.rounds.stack = g :: rest) (h : s.Sound) : (s.pollGarbled g).Sound := by
  unfold State.pollGarbled
  split
  · next hl => exact h.withRounds (h.rounds.split hs hl)
  · refine ⟨h.env, h.yard.stationFailure _, h.link, ?_, h.lanes, h.points, h.stations⟩
    dsimp only
    split
    · exact h.rounds.pop
    · exact h.rounds.same rfl rfl

theorem pollValid (g : Group) (address : Nat) (a : Answer) (h : s.Sound) : (s.pollValid g address a).Sound := by
  cases a with
  | report r =>
    exact ⟨h.env, (h.yard.stationValid _).routeReport _ _, h.link, h.rounds.same rfl rfl, h.lanes, h.points, h.stations⟩
  | accepted | notReady _ | ready _ => exact h

theorem pollAnswer (w : AnswerWindow) (h : s.Sound) : (s.pollAnswer w).Sound := by
  unfold State.pollAnswer
  split
  · next g rest _ hs =>
    have ended := h.withLine s.line.endWindow
    dsimp only
    split
    · exact ended.withRounds h.rounds.pop
    · exact ended.pollGarbled hs
    · exact ended.pollValid _ _ _
  · exact h

theorem grantCommand (c : LineCommand) (h : s.Sound) : (s.grantCommand c).Sound :=
  ⟨h.env, Yard.Bounded.handTaken _ (h.yard.same rfl le_rfl rfl rfl rfl rfl rfl), h.link, h.rounds, h.lanes, h.points, h.stations⟩

theorem commandAnswer (w : AnswerWindow) (h : s.Sound) : (s.commandAnswer w).Sound := by
  unfold State.commandAnswer
  split
  · have ended := h.withLine s.line.endWindow
    dsimp only
    split
    · exact ended.withYard ((h.yard.stationValid _).endCommand _ _)
    · split
      · exact ended.withYard ((h.yard.stationFailure _).endCommand _ _)
      · exact ended.withYard (Yard.withInFlight_bounded (h.yard.stationFailure _))
    · split
      · exact ended.withYard ((h.yard.stationFailure _).endCommand _ _)
      · exact ended.withYard (Yard.withInFlight_bounded (h.yard.stationFailure _))
  · exact h

theorem askAnswer (w : AnswerWindow) (h : s.Sound) : (s.askAnswer w).Sound := by
  unfold State.askAnswer
  split
  · exact ⟨h.env, (h.yard.askHealth _).askResult _ _ _, h.link, h.rounds, h.lanes, h.points, h.stations⟩
  · exact h

theorem grant (h : s.Sound) : s.grant.Sound := by
  unfold State.grant
  repeat' split
  any_goals exact h
  · exact h.beginRound _
  · exact h.grantCommand _
  · exact h.withLine _
  · exact h.beginRound _

theorem idleWaitEnd (h : s.Sound) : s.idleWaitEnd.Sound := by
  unfold State.idleWaitEnd
  repeat' split
  any_goals exact h
  · exact h.roundGoesOn
  all_goals exact h.withLine _

/-- Every command keeps the state sound. -/
theorem exec {c : Instr} {t : State} (h : s.Sound) (ht : exec c s = .next t) : t.Sound := by
  cases hq : requestOf c with
  | some q =>
    rw [exec_of_requestOf hq] at ht
    cases ht
    exact h.serve hq
  | none =>
    cases c <;> simp only [requestOf, reduceCtorEq] at hq <;> obtain rfl := Host.Outcome.next.inj ht
    case pinResetAssert => exact h.heldInReset
    case pinReset => exact reset.withPending _
    case hostFrame => exact h.powered (h.withLink (h.link.chars _))
    case frameError => exact h.powered (h.withLink (h.link.chars _))
    case characterGapTimeout => exact h.powered (h.withLink (h.link.chars _).gap)
    case replyFrameBegin => exact h.powered (h.withLink h.link.beginReply)
    case noticeFrameBegin => exact h.powered h.beginNotice
    case frameSent => exact h.powered (h.withLink (h.link.same rfl rfl h.link.tally))
    case clockAdvance => exact h.powered h.secondEnds
    case dayRollover =>
      refine h.powered ?_
      split
      · next hc =>
        have := h.secondEnds
        rwa [State.secondEnds, if_pos hc.ge] at this
      · exact h
    case supervisionExpiry => exact h.yardEvent h.yard.supervise
    case holdExpiry => exact h.yardEvent (h.yard.holdLapse _)
    case callTimerExpiry => exact h.yardEvent (h.yard.callTimeout _)
    case islandRecoveryExpiry => exact h.yardEvent (h.yard.islandRecoveryLapse _)
    case washRecoveryExpiry => exact h.yardEvent (h.yard.washRecoveryLapse _)
    case entryTimerExpiry => exact h.yardEvent (h.yard.entryLapse _)
    case releaseLapseExpiry => exact h.yardEvent (h.yard.releaseLapse _)
    case pacingExpiry => exact h.yardEvent h.yard.pacingLapse
    case roundTimerExpiry => exact h.powered (h.withRounds (h.rounds.lapse _ _))
    case islandSelection => exact h.yardEvent (h.yard.selectionEvent _)
    case washSelection => exact h.yardEvent (h.yard.selectionEvent _)
    case lineGrant => exact h.powered h.grant
    case lineIdleWaitEnd => exact h.powered h.idleWaitEnd
    case roundPollAnswer => exact h.pollAnswer _
    case commandAnswer => exact h.commandAnswer _
    case askAnswer => exact h.askAnswer _

end State.Sound

/-- Settles O59: a step executes the front command, or ends a master frame being sent; every command keeps the state sound. -/
theorem everyStepKeepsTheStateSound : Obligations.EveryStepKeepsTheStateSound := by
  intro s t h ht
  unfold step at ht
  split at ht
  · cases ht
    exact h.withLine _
  · exact (h.withPending _).exec ht

/-- Settles O60. -/
theorem resetStateIsSound : Obligations.ResetStateIsSound := State.Sound.reset

end Sys2Proof.Machine
end

section
/-!
PROOFS. The rows that take requests (O7): which row takes a body, what a refusal leaves, and the one reply each taking queues.
-/
namespace Sys2Proof.Machine

/-! ### When a request may be taken -/

theorem State.takes_iff {s : State} {body : List Byte} :
    s.Takes body ↔ s.rstnLow = false ∧ s.link.awaitResetDone = false ∧ s.link.waiting? = some body := by
  unfold State.Takes State.front?
  cases s.rstnLow <;> cases s.link.awaitResetDone <;> simp

/-- With the ANSWERED entries before it passed over, the first WAITING entry is the oldest. -/
theorem waiting_after_answered {answered : List RequestEntry} (h : ∀ r ∈ answered, r.answered = true) (body : List Byte)
    (rest : List RequestEntry) :
    (answered ++ { body, answered := false } :: rest).find? (fun r => !r.answered) = some { body, answered := false } := by
  rw [List.find?_append, List.find?_eq_none.2 (fun r hr => by simp [h r hr])]
  rfl

/-- The oldest WAITING entry becomes ANSWERED in its place. -/
theorem markAnswered_after_answered : ∀ {answered : List RequestEntry}, (∀ r ∈ answered, r.answered = true) →
    ∀ (body : List Byte) (rest : List RequestEntry),
      markAnswered (answered ++ { body, answered := false } :: rest) = answered ++ { body, answered := true } :: rest
  | [], _, _, _ => rfl
  | r :: answered, h, body, rest => by
    have hr := h r List.mem_cons_self
    rw [List.cons_append, markAnswered, if_pos hr,
      markAnswered_after_answered (fun q hq => h q (List.mem_cons_of_mem _ hq)), List.cons_append]

/-- Nothing can be taken while RSTN is low, before RESET_DONE has begun, or with no entry WAITING. -/
theorem State.front_none {s : State}
    (h : s.rstnLow = true ∨ s.link.awaitResetDone = true ∨ ∀ r ∈ s.link.requests, r.answered = true) : s.front? = none := by
  cases hf : s.front? with
  | none => rfl
  | some body =>
    obtain ⟨powered, done, waiting⟩ := State.takes_iff.1 hf
    rcases h with h | h | h
    · simp [h] at powered
    · simp [h] at done
    · have none : s.link.requests.find? (fun r => !r.answered) = none := List.find?_eq_none.2 (fun r hr => by simp [h r hr])
      simp [Link.waiting?, none] at waiting

/-! ### The row of a body -/

/-- The row that takes a body: its kind's, and of a kind's two rows the one its first field selects (log 2). -/
def rowOf (b : List Byte) : Instr :=
  match byteAt b 0 with
  | 0x01 => if ofKindSel 0x01 1 b then .laneDefineRemove else .laneDefine
  | 0x02 => if ofKindSel 0x02 1 b then .pointDefineRemove else .pointDefine
  | 0x03 => if ofKindSel 0x03 1 b then .stationDefineRemove else .stationDefine
  | 0x04 => .layoutCommit
  | 0x05 => .timingSet
  | 0x06 => .clockSet
  | 0x07 => .statusQuery
  | 0x08 => .yardReset
  | 0x10 => .busEnrol
  | 0x11 => .busSet
  | 0x12 => if ofKindSel 0x12 1 b then .busQueryList else .busQueryRecord
  | 0x13 => .busWithdraw
  | 0x18 => .planWrite
  | 0x19 => .planRead
  | 0x1A => .planStart
  | 0x1B => .planResume
  | 0x1C => .planAbort
  | 0x20 => if ofKindSel 0x20 1 b then .turnQueryPoints else .turnQueryQueue
  | 0x21 => .pointClose
  | 0x22 => .pointOpen
  | 0x24 => if ofKindSel 0x24 0 b then .frostSetOff else .frostSetOn
  | 0x28 => if ofKindSel 0x28 1 b then .laneQueryWaits else .laneQueryLane
  | 0x29 => .laneHold
  | 0x2A => .laneUnhold
  | 0x2B => .laneClose
  | 0x2C => .laneOpen
  | 0x2D => .laneForce
  | 0x2E => .laneSet
  | 0x2F => .shunt
  | 0x30 => .slotAdd
  | 0x31 => .slotRemove
  | 0x32 => .slotMove
  | 0x33 => .pulloutStart
  | 0x34 => .pulloutStop
  | 0x35 => .departQuery
  | 0x38 => .lineAsk
  | 0x39 => .lineRestart
  | 0x3A => .stationQuery
  | 0x3C => .noticeMap
  | 0x3D => .noticeEnable
  | 0x3E => .noticeTally
  | 0x3F => .echo
  | _ => .unknownKind

/-- A body of a kind Table 11-6 does not have is UNKNOWN_KIND's. -/
theorem rowOf_unknown {b : List Byte} (h : byteAt b 0 ∉ requestKinds) : rowOf b = .unknownKind := by
  unfold rowOf
  split
  case h_43 => rfl
  all_goals
    next e => exact absurd (by rw [e]; decide) h

/-- A row takes no body but its own. -/
theorem rowOf_of_takes {c : Instr} {q : Request} (h : requestOf c = some q) {b : List Byte} (ht : q.takes b = true) :
    rowOf b = c := by
  cases c <;> simp only [requestOf, Option.some.injEq, reduceCtorEq] at h <;> subst h
  case unknownKind => exact rowOf_unknown (by simpa [unknownKindRequest] using ht)
  case laneDefine | pointDefine | stationDefine | busQueryRecord | turnQueryQueue | frostSetOn | laneQueryLane =>
    obtain ⟨kind, sel⟩ := Bool.and_eq_true_iff.1 ht
    have kind := beq_iff_eq.1 kind
    have sel := Bool.not_eq_true' _ ▸ sel
    simp only [rowOf, kind, sel]
    rfl
  case laneDefineRemove | pointDefineRemove | stationDefineRemove | busQueryList | turnQueryPoints | frostSetOff | laneQueryWaits =>
    have kind := beq_iff_eq.1 (Bool.and_eq_true_iff.1 (Bool.and_eq_true_iff.1 ht).1).1
    have sel := ht
    dsimp only [laneDefineRemoveRequest, pointDefineRemoveRequest, stationDefineRemoveRequest, busQueryListRequest,
      turnQueryPointsRequest, frostSetOffRequest, laneQueryWaitsRequest] at sel
    simp only [rowOf, kind, sel]
    rfl
  all_goals
    have kind := beq_iff_eq.1 ht
    simp only [rowOf, kind]

theorem ofKind_of_kind {k : Nat} {b : List Byte} (h : byteAt b 0 = k) : ofKind k b = true := beq_iff_eq.2 h

theorem ofKindElse_of_not_sel {k v : Nat} {b : List Byte} (h : byteAt b 0 = k) (hs : ¬ ofKindSel k v b = true) :
    ofKindElse k v b = true := by
  rw [ofKindElse, ofKind_of_kind h, Bool.eq_false_of_not_eq_true hs]
  rfl

/-- Every body has a row that takes it. -/
theorem rowOf_takes (b : List Byte) : ∃ q, requestOf (rowOf b) = some q ∧ q.takes b = true := by
  unfold rowOf
  split
  case h_43 =>
    have unknown : byteAt b 0 ∉ requestKinds := by simp_all [requestKinds]
    exact ⟨_, rfl, by simpa [unknownKindRequest] using unknown⟩
  case h_1 | h_2 | h_3 | h_11 | h_18 | h_21 | h_22 =>
    next kind =>
      split
      · next sel => exact ⟨_, rfl, sel⟩
      · next sel => exact ⟨_, rfl, ofKindElse_of_not_sel kind sel⟩
  all_goals next kind => exact ⟨_, rfl, ofKind_of_kind kind⟩

/-! ### What a refusal leaves -/

/-- A reply other than OK leaves the state and carries no data. -/
def RefusesClean (s : State) (r : State × Reply) : Prop := r.2.result ≠ .ok → r.1 = s ∧ r.2.data = []

theorem RefusesClean.refuse (s : State) (r : Result) : RefusesClean s (s, .refuse r) := fun _ => ⟨rfl, rfl⟩

theorem RefusesClean.ok (s t : State) (data : List Byte) : RefusesClean s (t, .ok data) := fun h => absurd rfl h

theorem RefusesClean.onLane {act : Lane → List Byte → State → State × Reply} (at_ : Nat) (b : List Byte) (s : State)
    (hact : ∀ l, RefusesClean s (act l b s)) : RefusesClean s (onLane at_ act b s) := by
  unfold Machine.onLane
  repeat' split
  · exact .refuse _ _
  · exact .refuse _ _
  · exact hact _

/-- Every action but LAYOUT_COMMIT's refuses clean. -/
theorem Request.act_refusesClean {c : Instr} {q : Request} (h : requestOf c = some q) (hc : c ≠ .layoutCommit) (b : List Byte)
    (s : State) : RefusesClean s (q.act b s) := by
  cases c <;> simp only [requestOf, Option.some.injEq, reduceCtorEq] at h <;> subst h
  case layoutCommit => exact absurd rfl hc
  case unknownKind => exact .refuse _ _
  case echo | statusQuery | yardReset | turnQueryPoints | frostSetOff | lineRestart | noticeTally => exact .ok _ _ _
  case laneHold | laneUnhold | laneClose | laneOpen | laneForce =>
    refine .onLane _ b s (fun l => ?_)
    repeat' split
    all_goals first | exact fun hr => absurd rfl hr | exact fun _ => ⟨rfl, rfl⟩
  case laneQueryLane =>
    dsimp only [laneQueryLaneRequest, queryLane]
    split
    · exact .refuse _ _
    · exact .onLane _ b s (fun l => .ok _ _ _)
  all_goals
    dsimp only [laneDefineRequest, laneDefineRemoveRequest, pointDefineRequest, pointDefineRemoveRequest, stationDefineRequest,
      stationDefineRemoveRequest, timingSetRequest, clockSetRequest, busEnrolRequest, busSetRequest, busQueryRecordRequest,
      busQueryListRequest, busWithdrawRequest, planWriteRequest, planReadRequest, planStartRequest, planResumeRequest,
      planAbortRequest, turnQueryQueueRequest, pointCloseRequest, pointOpenRequest, frostSetOnRequest, laneQueryWaitsRequest,
      laneSetRequest, shuntRequest, slotAddRequest, slotRemoveRequest, slotMoveRequest, pulloutStartRequest,
      pulloutStopRequest, departQueryRequest, lineAskRequest, stationQueryRequest, noticeMapRequest, noticeEnableRequest,
      defineLane, removeLane, definePoint, removePoint, defineStation, removeStation, setTiming, setClock, enrolBus,
      setBusFields, queryBus, listBuses, withdrawBus, writePlan, readPlan, startPlan, resumePlan, abortPlanOf, queryQueue,
      closeNamed, openNamed, setFrostOn, queryWaits, setLaneList, shuntBus, addSlotOf, removeSlotOf, moveSlotOf, startPullout,
      stopPullout, queryDepartures, queueAsk, queryStations, mapNotices, enableNotices]
    repeat' split
    all_goals first | exact fun hr => absurd rfl hr | exact fun _ => ⟨rfl, rfl⟩

/-- A commit refused leaves the state. -/
theorem commitLayout_refused {b : List Byte} {s : State} (h : (commitLayout b s).2.result ≠ .ok) : (commitLayout b s).1 = s := by
  unfold commitLayout at h ⊢
  split
  · rfl
  · next none => exact absurd (by rw [none]; rfl) h

/-- A refusal of any stage leaves the state, and carries data for LAYOUT_COMMIT alone (R183, R184). -/
theorem Request.result_refused {c : Instr} {q : Request} (h : requestOf c = some q) (b : List Byte) (s : State)
    (hr : (q.result b s).2.result ≠ .ok) :
    (q.result b s).1 = s ∧ ((q.result b s).2.data = [] ∨ c = .layoutCommit) := by
  by_cases hl : q.length b = true
  swap
  · rw [Request.result, if_neg hl]
    exact ⟨rfl, .inl rfl⟩
  by_cases hm : q.mode s.mode = true
  swap
  · rw [Request.result, if_pos hl, Request.own, if_neg hm]
    exact ⟨rfl, .inl rfl⟩
  · rw [Request.result, if_pos hl, Request.own, if_pos hm] at hr ⊢
    by_cases hc : c = .layoutCommit
    · subst hc
      obtain rfl := Option.some.inj h
      exact ⟨commitLayout_refused (b := b) hr, .inr rfl⟩
    · obtain ⟨same, bare⟩ := Request.act_refusesClean h hc b s hr
      exact ⟨same, .inl bare⟩

/-- No stage touches the request queue or the replies that wait. -/
theorem Request.result_keeps_link {c : Instr} {q : Request} (h : requestOf c = some q) (b : List Byte) (s : State) :
    (q.result b s).1.link.requests = s.link.requests ∧ (q.result b s).1.link.replies = s.link.replies := by
  rcases Request.result_fst (q := q) (s := s) (b := b) with e | e <;> rw [e]
  · exact ⟨rfl, rfl⟩
  · exact Request.act_keeps_link h b s

/-- Settles O7: of the rows that take requests `rowOf body` alone takes the body. -/
theorem everyTakenRequestGetsOneReply : Obligations.EveryTakenRequestGetsOneReply := by
  refine ⟨fun s body taken => ?_, fun s answered body rest before queue low done => ?_, fun s idle => ?_⟩
  · obtain ⟨q, row, own⟩ := rowOf_takes body
    refine ⟨rowOf body, by simp [row], ⟨(q.result body s).1, (q.result body s).2.result, (q.result body s).2.data, ?_, ?_, ?_⟩, ?_⟩
    · rw [exec_of_requestOf row, Request.serve_own taken own]
      rfl
    · exact Request.result_refused row body s
    · exact fun _ => Request.result_keeps_link row body s
    · intro d isRow other
      obtain ⟨r, hr⟩ := Option.isSome_iff_exists.1 isRow
      have foreign : r.takes body = false :=
        Bool.eq_false_of_not_eq_true (fun ht => other (rowOf_of_takes hr ht).symm)
      rw [exec_of_requestOf hr, Request.serve_other taken foreign]
  · refine ⟨State.takes_iff.2 ⟨low, done, ?_⟩, fun r data => ?_⟩
    · rw [Link.waiting?, queue, waiting_after_answered before]
      rfl
    · rw [State.reply, queue]
      exact markAnswered_after_answered before body rest
  · have none := State.front_none idle
    refine ⟨fun body taken => ?_, fun c isRow => ?_⟩
    · rw [State.Takes, none] at taken
      cases taken
    · obtain ⟨q, hq⟩ := Option.isSome_iff_exists.1 isRow
      rw [exec_of_requestOf hq, Request.serve_idle none]

end Sys2Proof.Machine
end

section
/-!
PROOFS. Resets, queries and the commit (O2, O3, O13, O14, O18, O19): RSTN held low, the values after a reset, what a YARD_RESET keeps, the
status, and the checks of a layout.
-/
namespace Sys2Proof.Machine

/-! ### RSTN -/

theorem State.powered_low {s : State} (h : s.rstnLow = true) (g : State → State) : s.powered g = s := by
  rw [State.powered, if_pos h]

theorem State.powered_high {s : State} (h : s.rstnLow = false) (g : State → State) : s.powered g = g s := by
  rw [State.powered, h]
  rfl

theorem State.windowOpen_low {s : State} (h : s.rstnLow = true) (holder : LineHolder) : s.windowOpen holder = false := by
  rw [State.windowOpen, h]
  rfl

/-- RSTN held low keeps every command from happening but its own (R13, log 6). -/
theorem exec_held {c : Instr} {s : State} (low : s.rstnLow = true) (hr : c ≠ .pinReset) (ha : c ≠ .pinResetAssert) :
    exec c s = .next s := by
  cases hq : requestOf c with
  | some q => rw [exec_of_requestOf hq, Request.serve_idle (State.front_none (.inl low))]
  | none =>
    cases c <;> simp only [requestOf, reduceCtorEq] at hq
    case pinResetAssert => exact absurd rfl ha
    case pinReset => exact absurd rfl hr
    case roundPollAnswer w =>
      exact congrArg Host.Outcome.next (by rw [State.pollAnswer, State.windowOpen_low low])
    case commandAnswer w =>
      exact congrArg Host.Outcome.next (by rw [State.commandAnswer, State.windowOpen_low low])
    case askAnswer w =>
      exact congrArg Host.Outcome.next (by rw [State.askAnswer, State.windowOpen_low low])
    all_goals exact congrArg Host.Outcome.next (State.powered_low low _)

theorem State.runl_iff (s : State) : s.runl = true ↔ s.mode = .running ∧ s.rstnLow = false := by
  simp [State.runl]

/-- Settles O3: no guard of a command passes while RSTN is held low, and the reset state is read off its definition. -/
theorem pinReset : Obligations.PinReset := by
  refine ⟨fun s => ⟨rfl, ?_⟩, fun s c low hr ha => exec_held low hr ha, fun s => rfl, State.runl_iff⟩
  simp [State.runl]

/-- Settles O2: the reset state's fields, read off its definition. -/
theorem resetValues : Obligations.ResetValues := by
  unfold Obligations.ResetValues
  refine ⟨rfl, rfl, rfl, rfl, rfl, fun _ => rfl, ?_⟩
  decide

/-! ### The acting of a request -/

/-- A row's own request that passes the length and mode checks is answered with what its action gives (R183). -/
theorem exec_taken {c : Instr} {q : Request} (hq : requestOf c = some q) {s : State} {b : List Byte} (taken : s.Takes b)
    (own : q.takes b = true) (length : q.length b = true) (mode : q.mode s.mode = true) :
    exec c s = .next (State.answered b (q.act b s)) := by
  rw [exec_of_requestOf hq, Request.serve_acts taken own length mode]

/-- The same, with what the action gives written out. -/
theorem exec_acts {c : Instr} {q : Request} (hq : requestOf c = some q) {s t : State} {b : List Byte} {r : Reply}
    (taken : s.Takes b) (own : q.takes b = true) (length : q.length b = true) (mode : q.mode s.mode = true)
    (act : q.act b s = (t, r)) : exec c s = .next (t.reply b r.result r.data) := by
  rw [exec_taken hq taken own length mode, act]
  rfl

/-- A kind that both yard modes accept. -/
theorem anyMode_eq (m : YardMode) : anyMode m = true := by cases m <;> rfl

/-- A kind of the layout requests (Table 1-2). -/
theorem inUnconfigured_eq {m : YardMode} (h : m = .unconfigured) : inUnconfigured m = true := by
  rw [h]
  rfl

/-- Settles O19: the counts of islands and wash lanes are those of the points' two kinds. -/
theorem statusQueried : Obligations.StatusQueried := by
  intro s tag body y points taken
  refine (exec_acts rfl taken rfl rfl (anyMode_eq _) rfl).trans ?_
  have mode : s.mode.code = if s.mode = .running then 1 else 0 := by cases s.mode <;> rfl
  have islands : s.layout.islandCount = points false := by
    refine congrArg List.length (List.filter_congr fun d _ => ?_)
    cases d.id.isWash <;> rfl
  have washes : s.layout.washCount = points true := by
    refine congrArg List.length (List.filter_congr fun d _ => ?_)
    cases d.id.isWash <;> rfl
  refine congrArg (fun data => Host.Outcome.next (s.reply body .ok data)) ?_
  show s.statusBytes = _
  rw [State.statusBytes, mode, islands, washes]
  rfl

/-- A class is enabled by the three flags alone (R172). -/
theorem Notices.enabled_congr {u v : Notices} (h1 : u.enable1 = v.enable1) (h2 : u.enable2 = v.enable2)
    (h3 : u.enable3 = v.enable3) (cls : Nat) : u.enabled cls = v.enabled cls := by
  unfold Notices.enabled
  split
  · exact h1
  · exact h2
  · exact h3
  · rfl

/-- The notice unit after a YARD_RESET: map and enables kept, RESET_DONE under them counted and, if enabled, queued (R179). -/
theorem Notices.yardReset_eq (u : Notices) : u.yardReset =
    { classes := u.classes, enable1 := u.enable1, enable2 := u.enable2, enable3 := u.enable3
      lost := 0, tallies := 1 :: List.replicate 41 0
      queue :=
        if u.enabled (u.classes.getD 0 0) then
          [{ kind := .resetDone, cls := u.classes.getD 0 0, lost := 0, time := 0, fleet := 0, place := none, code := 2,
             quantity := 0 }]
        else [] } := by
  by_cases h : u.enabled (u.classes.getD 0 0) = true
  · rw [if_pos h]
    exact (if_pos ((Notices.enabled_congr (v := u) rfl rfl rfl _).trans h)).trans rfl
  · rw [if_neg h]
    exact (if_neg (fun k => h ((Notices.enabled_congr (v := u) rfl rfl rfl _).symm.trans k))).trans rfl

/-- Settles O18: what the notice unit keeps decides whether its RESET_DONE is queued. -/
theorem yardReset : Obligations.YardReset := by
  intro s tag body u cls taken t
  have act : yardResetRequest.act body s = (s.yardReset, .ok []) := rfl
  refine ⟨(exec_acts rfl taken rfl rfl (anyMode_eq _) act).trans ?_, rfl⟩
  rw [State.yardReset, Notices.yardReset_eq]
  rfl

/-! ### The checks of a commit -/

section
variable {α : Type} {P : α → Prop} {p : α → Bool}

/-- The first of a list that lacks a property is the first that a test for its lack finds. -/
theorem FirstWithout.find? {l : List α} {x : α} (h : FirstWithout P l x) (test : ∀ y, p y = true ↔ ¬ P y) :
    l.find? p = some x := by
  obtain ⟨before, after, rfl, ok, lacks⟩ := h
  rw [List.find?_append, List.find?_eq_none.2 (fun y hy => by simpa [test] using ok y hy), Option.none_or, List.find?_cons,
    (test x).2 lacks]

theorem find?_none_of_forall {l : List α} (h : ∀ y ∈ l, P y) (test : ∀ y, p y = true ↔ ¬ P y) : l.find? p = none :=
  List.find?_eq_none.2 (fun y hy hp => (test y).1 hp (h y hy))

end

namespace Layout

variable (l : Layout)

theorem named_test (d : Demand) : (l.station? d.station).isNone = true ↔ ¬ l.Named d := by
  simp [Layout.Named]

theorem matching_test (d : Demand) : ((l.station? d.station).map StationDef.kind != some d.kind) = true ↔ ¬ l.Matching d := by
  simp [Layout.Matching]

theorem unshared_test (t : StationDef) : decide (2 ≤ l.users t.address) = true ↔ ¬ l.Unshared t := by
  simp [Layout.Unshared]
  omega

theorem used_test (t : StationDef) : (t.kind != .gate && l.users t.address == 0) = true ↔ ¬ l.Used t := by
  simp [Layout.Used]

/-- The checks of the stations and of the capacities, 4 to 6 of Table 1-4, which follow those of the lanes and points. -/
def stationFailure (l : Layout) : Option CommitFailure :=
  match l.stations.find? (fun t => decide (2 ≤ l.users t.address)) with
  | some t => some { code := 4, kind := 4, number := t.address }
  | none =>
    match l.stations.find? (fun t => t.kind != .gate && l.users t.address == 0) with
    | some t => some { code := 5, kind := 4, number := t.address }
    | none =>
      if Config.yardPlaces < (l.lanes.map LaneDef.capacity).sum then some { code := 6, kind := 0, number := 0 } else none

variable {l}

/-- Check 1 fails. -/
theorem commitFailure_gate (h : ¬ l.OneGate) : l.commitFailure = some { code := 1, kind := 0, number := 0 } :=
  if_pos h

/-- Check 1 passes: the checks of the lanes and points decide. -/
theorem commitFailure_afterGate (h : l.OneGate) :
    l.commitFailure =
      match l.demands.find? (fun d => (l.station? d.station).isNone) with
      | some d => some (failureAt 2 d)
      | none =>
        match l.demands.find? (fun d => (l.station? d.station).map StationDef.kind != some d.kind) with
        | some d => some (failureAt 3 d)
        | none => l.stationFailure :=
  if_neg (not_not.2 h)

/-- Check 2 fails first. -/
theorem commitFailure_named (h1 : l.OneGate) {d : Demand} (h : FirstWithout l.Named l.demands d) :
    l.commitFailure = some (failureAt 2 d) := by
  rw [commitFailure_afterGate h1, h.find? l.named_test]

/-- Check 3 fails first. -/
theorem commitFailure_matching (h1 : l.OneGate) (h2 : ∀ d ∈ l.demands, l.Named d) {d : Demand}
    (h : FirstWithout l.Matching l.demands d) : l.commitFailure = some (failureAt 3 d) := by
  rw [commitFailure_afterGate h1, find?_none_of_forall h2 l.named_test]
  dsimp only
  rw [h.find? l.matching_test]

/-- Checks 1 to 3 pass: the checks of the stations decide. -/
theorem commitFailure_stations (h1 : l.OneGate) (h2 : ∀ d ∈ l.demands, l.Named d) (h3 : ∀ d ∈ l.demands, l.Matching d) :
    l.commitFailure = l.stationFailure := by
  rw [commitFailure_afterGate h1, find?_none_of_forall h2 l.named_test]
  dsimp only
  rw [find?_none_of_forall h3 l.matching_test]

end Layout

/-- Settles O13: the checks of a commit in the order of Table 1-4, each reached when those before it pass. -/
theorem commitRefused : Obligations.CommitRefused := by
  intro s tag body l refused mode taken
  have fails : ∀ {f : CommitFailure}, l.commitFailure = some f → refused f.code f.kind f.number := by
    intro f hf
    have act : layoutCommitRequest.act body s = (s, { result := .wrongState, data := f.bytes }) := by
      dsimp only [layoutCommitRequest]
      rw [commitLayout, show s.layout.commitFailure = some f from hf]
    exact exec_acts rfl taken rfl rfl (inUnconfigured_eq mode) act
  refine ⟨fun h => fails (Layout.commitFailure_gate h), fun h1 => ⟨fun d h => fails (Layout.commitFailure_named h1 h), fun h2 =>
    ⟨fun d h => fails (Layout.commitFailure_matching h1 h2 h), fun h3 => ?_⟩⟩⟩
  have stations := Layout.commitFailure_stations h1 h2 h3
  refine ⟨fun t h => fails (f := { code := 4, kind := 4, number := t.address }) ?_, fun h4 =>
    ⟨fun t h => fails (f := { code := 5, kind := 4, number := t.address }) ?_,
      fun h5 h6 => fails (f := { code := 6, kind := 0, number := 0 }) ?_⟩⟩
  · rw [stations, Layout.stationFailure, h.find? l.unshared_test]
  · rw [stations, Layout.stationFailure, find?_none_of_forall h4 l.unshared_test]
    dsimp only
    rw [h.find? l.used_test]
  · rw [stations, Layout.stationFailure, find?_none_of_forall h4 l.unshared_test]
    dsimp only
    rw [find?_none_of_forall h5 l.used_test]
    exact if_pos (Nat.lt_of_not_le h6)

/-- Settles O14: no check of the commit finds anything. -/
theorem commitIntoService : Obligations.CommitIntoService := by
  intro s tag body l p open_ mode taken gate demands stations fits t
  have passes : l.commitFailure = none := by
    rw [Layout.commitFailure_stations gate (fun d hd => (demands d hd).1) (fun d hd => (demands d hd).2),
      Layout.stationFailure, find?_none_of_forall (fun t ht => (stations t ht).1) l.unshared_test]
    dsimp only
    rw [find?_none_of_forall (fun t ht => (stations t ht).2) l.used_test]
    exact if_neg (Nat.not_lt.2 fits)
  have act : layoutCommitRequest.act body s = (s.intoService, .ok []) := by
    dsimp only [layoutCommitRequest]
    rw [commitLayout, show s.layout.commitFailure = none from passes]
  have taking := exec_acts (c := .layoutCommit) rfl taken rfl rfl (inUnconfigured_eq mode) act
  exact ⟨taking, (State.runl_iff t).2 ⟨rfl, (State.takes_iff.1 taken).1⟩⟩

end Sys2Proof.Machine
end

section
/-!
PROOFS. The layout definitions (O10, O11, O12): the ranges of their fields, what stands under a key after a definition is written, and the
room for stations of a kind.
-/
namespace Sys2Proof.Machine

/-! ### Fields of a body -/

/-- The first field of a body does not select the kind's second row. -/
theorem ofKindElse_request {k v : Nat} {tag first : Byte} {fields : List Byte} (hk : k < 256) (h : first.toNat ≠ v) :
    ofKindElse k v (request k tag (first :: fields)) = true := by
  refine ofKindElse_of_not_sel (by simp [request, byteAt, Nat.mod_eq_of_lt hk]) (fun hs => h ?_)
  exact beq_iff_eq.1 (Bool.and_eq_true_iff.1 hs).2

/-- A first field that chooses no layout goes with the length of either (log 16). -/
theorem byForm_request {k n0 n1 : Nat} {tag first : Byte} {fields : List Byte} (h : 2 ≤ first.toNat)
    (hl : fields.length + 3 = n0 ∨ fields.length + 3 = n1) : byForm n0 n1 (request k tag (first :: fields)) = true := by
  have at2 : byteAt (request k tag (first :: fields)) 2 = first.toNat := rfl
  have length : (request k tag (first :: fields)).length = fields.length + 3 := rfl
  rw [byForm, if_pos (by omega), at2, if_neg (by omega), if_neg (by omega), length]
  simpa using hl

theorem laneKindOf_eq (k : Nat) : laneKindOf k = if k ≤ 1 then some (if k = 0 then .through else .blind) else none := by
  rcases k with _ | _ | k <;> simp [laneKindOf]

theorem flagOf_eq (k : Nat) : flagOf k = if k ≤ 1 then some (k == 1) else none := by
  rcases k with _ | _ | k <;> simp [flagOf]

theorem offersOf_eq (k : Nat) :
    offersOf k = if k ≤ 2 then some (if k = 0 then .diesel else if k = 1 then .gas else .both) else none := by
  rcases k with _ | _ | _ | k <;> simp [offersOf]

/-- The codes of Table 8-6. -/
theorem stationKindOf_iff (code : Nat) (kind : StationKind) :
    stationKindOf code = some kind ↔ (code, kind) ∈ [(1, StationKind.gate), (2, .loop), (3, .island), (4, .wash)] := by
  rcases code with _ | _ | _ | _ | _ | code <;> cases kind <;> simp [stationKindOf]

theorem stationKindOf_none {code : Nat} (h : code < 1 ∨ 4 < code) : stationKindOf code = none := by
  rcases code with _ | _ | _ | _ | _ | code <;> first | rfl | omega

/-! ### Definitions under their keys -/

/-- A definition written is found by a test of its own key. -/
theorem find?_upsert_self {α : Type} {key : α → Nat} {x : α} {P : α → Bool} (hx : P x = true)
    (hP : ∀ y, P y = true → key y = key x) : ∀ l : List α, (upsert key x l).find? P = some x
  | [] => by simp [upsert, hx]
  | y :: rest => by
    unfold upsert
    split
    · simp [hx]
    · split
      · simp [hx]
      · next below other =>
        have hy : P y = false := Bool.eq_false_of_not_eq_true (fun h => other (hP y h).symm)
        rw [List.find?_cons, hy]
        exact find?_upsert_self hx hP rest

/-- Every other definition is found as before. -/
theorem find?_upsert_other {α : Type} {key : α → Nat} {x : α} {P : α → Bool} (hx : P x = false)
    (hP : ∀ y, key y = key x → P y = false) : ∀ l : List α, (upsert key x l).find? P = l.find? P
  | [] => by simp [upsert, hx]
  | y :: rest => by
    unfold upsert
    split
    · rw [List.find?_cons, hx]
    · split
      · next same => rw [List.find?_cons, List.find?_cons, hx, hP y same.symm]
      · rw [List.find?_cons, List.find?_cons, find?_upsert_other hx hP rest]

/-- A lookup by number after a definition is written. -/
theorem find?_upsert_key {α : Type} (key : α → Nat) (x : α) (l : List α) (n : Nat) :
    (upsert key x l).find? (fun y => key y == n) = if n = key x then some x else l.find? (fun y => key y == n) := by
  split
  · next e => exact find?_upsert_self (by simp [e]) (fun y hy => by simpa [e] using hy) l
  · next ne =>
    refine find?_upsert_other (by simpa using fun h => ne h.symm) (fun y hy => ?_) l
    simpa [hy] using fun h => ne h.symm

/-- A list has a record of a key exactly when the lookup finds one. -/
theorem ite_any {α β : Type} (P : α → Bool) (l : List α) (x y : β) :
    (if l.any P then x else y) = if (l.find? P).isNone then y else x := by
  rw [← List.isSome_find?]
  cases l.find? P <;> rfl

/-- What a choice of three actions answers, each by itself. -/
theorem answered_ite₂ {p q : Prop} [Decidable p] [Decidable q] (b : List Byte) (x y z : State × Reply) :
    State.answered b (if p then x else if q then y else z) =
      if p then State.answered b x else if q then State.answered b y else State.answered b z := by
  split
  · rfl
  · split <;> rfl

/-! ### LANE_DEFINE -/

/-- The lane definition of a body whose fields are all in range (R3). -/
theorem laneDefOf_eq (b : List Byte) : laneDefOf b =
    if 1 ≤ byteAt b 3 ∧ byteAt b 3 ≤ 24 ∧ byteAt b 4 ≤ 1 ∧ 2 ≤ byteAt b 5 ∧ byteAt b 5 ≤ 12 ∧ byteAt b 6 ≤ 1 ∧
        1 ≤ byteAt b 7 ∧ byteAt b 7 ≤ 63 then
      some { number := byteAt b 3, kind := if byteAt b 4 = 0 then .through else .blind, capacity := byteAt b 5,
             gas := byteAt b 6 == 1, station := byteAt b 7 }
    else none := by
  rw [laneDefOf, laneKindOf_eq, flagOf_eq]
  by_cases kind : byteAt b 4 ≤ 1
  · by_cases gas : byteAt b 6 ≤ 1
    · simp only [kind, gas, if_true, true_and, laneOk, addressOk, Bool.and_eq_true, decide_eq_true_eq, and_assoc]
    · simp [gas]
  · simp [kind]

/-- LANE_DEFINE's REMOVE (R3). -/
theorem removeLane_eq (b : List Byte) (s : State) : removeLane b s =
    if byteAt b 3 < 1 ∨ 24 < byteAt b 3 then (s, .refuse .badValue)
    else if (s.layout.lane? (byteAt b 3)).isNone then (s, .refuse .notFound)
    else ({ s with layout := { s.layout with lanes := s.layout.lanes.filter (fun d => d.number != byteAt b 3) } }, .ok []) := by
  unfold removeLane
  dsimp only
  exact if_congr (by simp [laneOk]; omega) rfl (ite_any _ _ _ _)

/-- Settles O10: a definition written under its number, one removed, and an unknown action. -/
theorem laneDefinitions : Obligations.LaneDefinitions := by
  intro s tag mode
  refine ⟨?_, ?_, ?_⟩
  · intro number kind capacity gas station body inRange definition taken
    have carried : laneDefOf body = if inRange then some definition else none := laneDefOf_eq body
    refine ⟨fun out => ?_, fun fits => ⟨upsert LaneDef.number definition s.layout.lanes, ?_, fun n => ?_, fun rising => ?_⟩⟩
    · have act : laneDefineRequest.act body s = (s, .refuse .badValue) := by
        dsimp only [laneDefineRequest, defineLane]
        refine (if_neg (not_not.2 rfl)).trans ?_
        rw [carried, if_neg out]
      exact exec_acts rfl taken rfl rfl (inUnconfigured_eq mode) act
    · have act : laneDefineRequest.act body s =
          ({ s with layout := { s.layout with lanes := upsert LaneDef.number definition s.layout.lanes } }, .ok []) := by
        dsimp only [laneDefineRequest, defineLane]
        refine (if_neg (not_not.2 rfl)).trans ?_
        rw [carried, if_pos fits]
      exact exec_acts rfl taken rfl rfl (inUnconfigured_eq mode) act
    · exact find?_upsert_key LaneDef.number definition s.layout.lanes n
    · exact LanesRising.upsert ⟨fits.1, fits.2.1⟩ rising
  · intro number body taken
    refine (exec_taken rfl taken rfl rfl (inUnconfigured_eq mode)).trans (congrArg Host.Outcome.next ?_)
    refine (congrArg (State.answered body) (removeLane_eq body s)).trans ?_
    exact answered_ite₂ body _ _ _
  · intro action fields body unknown length taken
    have act : laneDefineRequest.act body s = (s, .refuse .badValue) := if_pos (by
      show action.toNat ≠ 0
      omega)
    refine exec_acts rfl taken (ofKindElse_request (k := 0x01) (v := 1) (by decide) (by omega)) (byForm_request unknown ?_)
      (inUnconfigured_eq mode) act
    omega

/-! ### POINT_DEFINE -/

/-- The point definition of a body whose fields are all in range (R4). -/
theorem pointDefOf_eq (b : List Byte) : pointDefOf b =
    if ((byteAt b 3 = 2 ∧ 1 ≤ byteAt b 4 ∧ byteAt b 4 ≤ 4 ∧ byteAt b 5 ≤ 2) ∨
          (byteAt b 3 = 3 ∧ 1 ≤ byteAt b 4 ∧ byteAt b 4 ≤ 2 ∧ byteAt b 5 = 255)) ∧
        1 ≤ byteAt b 6 ∧ byteAt b 6 ≤ 63 then
      some (if byteAt b 3 = 2 then
          { id := .island (byteAt b 4), station := byteAt b 6
            offers := some (if byteAt b 5 = 0 then .diesel else if byteAt b 5 = 1 then .gas else .both) }
        else { id := .wash (byteAt b 4), station := byteAt b 6, offers := none })
    else none := by
  rw [pointDefOf, pointOf]
  by_cases island : byteAt b 3 = 2 ∧ 1 ≤ byteAt b 4 ∧ byteAt b 4 ≤ 4
  · obtain ⟨kind, low, high⟩ := island
    rw [if_pos ⟨kind, low, high⟩]
    by_cases station : 1 ≤ byteAt b 6 ∧ byteAt b 6 ≤ 63
    · by_cases offers : byteAt b 5 ≤ 2 <;> simp [kind, low, high, station, offers, addressOk, offersOf_eq]
    · simp [station, addressOk]
  · rw [if_neg island]
    by_cases wash : byteAt b 3 = 3 ∧ 1 ≤ byteAt b 4 ∧ byteAt b 4 ≤ 2
    · obtain ⟨kind, low, high⟩ := wash
      rw [if_pos ⟨kind, low, high⟩]
      by_cases station : 1 ≤ byteAt b 6 ∧ byteAt b 6 ≤ 63
      · by_cases offers : byteAt b 5 = 255 <;> simp [kind, low, high, station, offers, addressOk]
      · simp [station, addressOk]
    · rw [if_neg wash]
      exact (if_neg (by tauto)).symm

/-- POINT_DEFINE's REMOVE of a point of the part (R4). -/
theorem removePoint_eq {b : List Byte} {p : PointId} (h : pointOf (byteAt b 3) (byteAt b 4) = some p) (s : State) :
    removePoint b s =
      if (s.layout.point? p).isNone then (s, .refuse .notFound)
      else ({ s with layout := { s.layout with points := s.layout.points.filter (fun d => d.id != p) } }, .ok []) := by
  rw [removePoint, h]
  exact ite_any _ _ _ _

/-- The keys of the part's points tell them apart. -/
theorem pointKey_inj {p q : PointId} (hp : p.wellFormed = true) (hq : q.wellFormed = true) (h : pointKey p = pointKey q) : p = q := by
  rcases p with m | m <;> rcases q with n | n <;> simp [pointKey, PointId.wellFormed] at * <;> omega

/-- A lookup of a point of the part after a definition is written. -/
theorem point?_upsert {d : PointDef} (hd : d.id.wellFormed = true) (l : List PointDef) {p : PointId} (hp : p.wellFormed = true) :
    (upsert (fun d => pointKey d.id) d l).find? (fun d => d.id == p) =
      if p = d.id then some d else l.find? (fun d => d.id == p) := by
  split
  · next e => exact find?_upsert_self (by simp [e]) (fun y hy => by rw [beq_iff_eq.1 hy, e]) l
  · next ne =>
    refine find?_upsert_other (by simpa using fun h => ne h.symm) (fun y same => ?_) l
    exact beq_eq_false_iff_ne.2 (fun hy => ne (pointKey_inj hp hd (by rw [← hy]; exact same)))

/-- Settles O11: the same of points, whose keys tell the points of the part apart. -/
theorem pointDefinitions : Obligations.PointDefinitions := by
  intro s tag mode
  refine ⟨?_, ?_, ?_⟩
  · intro kind number offers station body island wash inRange definition taken
    have carried : pointDefOf body = if inRange then some definition else none := pointDefOf_eq body
    refine ⟨fun out => ?_, fun fits => ?_⟩
    · have act : pointDefineRequest.act body s = (s, .refuse .badValue) := by
        dsimp only [pointDefineRequest, definePoint]
        refine (if_neg (not_not.2 rfl)).trans ?_
        rw [carried, if_neg out]
      exact exec_acts rfl taken rfl rfl (inUnconfigured_eq mode) act
    · have known : definition.id.wellFormed = true := pointDefOf_wellFormed (carried.trans (if_pos fits))
      refine ⟨upsert (fun d => pointKey d.id) definition s.layout.points, ?_, fun p hp => point?_upsert known _ hp,
        fun rising => PointsRising.upsert known rising⟩
      have act : pointDefineRequest.act body s =
          ({ s with layout := { s.layout with points := upsert (fun d => pointKey d.id) definition s.layout.points } },
            .ok []) := by
        dsimp only [pointDefineRequest, definePoint]
        refine (if_neg (not_not.2 rfl)).trans ?_
        rw [carried, if_pos fits]
      exact exec_acts rfl taken rfl rfl (inUnconfigured_eq mode) act
  · intro kind number body named taken
    have own : pointOf (byteAt body 3) (byteAt body 4) = named := rfl
    refine ⟨fun none => ?_, fun p some => ?_⟩
    · have act : pointDefineRemoveRequest.act body s = (s, .refuse .badValue) := by
        dsimp only [pointDefineRemoveRequest]
        rw [removePoint, own, none]
      exact exec_acts rfl taken rfl rfl (inUnconfigured_eq mode) act
    · refine (exec_taken rfl taken rfl rfl (inUnconfigured_eq mode)).trans (congrArg Host.Outcome.next ?_)
      refine (congrArg (State.answered body) (removePoint_eq (own.trans some) s)).trans ?_
      exact apply_ite (State.answered body) _ _ _
  · intro action fields body unknown length taken
    have act : pointDefineRequest.act body s = (s, .refuse .badValue) := if_pos (by
      show action.toNat ≠ 0
      omega)
    refine exec_acts rfl taken (ofKindElse_request (k := 0x02) (v := 1) (by decide) (by omega)) (byForm_request unknown ?_)
      (inUnconfigured_eq mode) act
    omega

/-! ### STATION_DEFINE -/

/-- A list rising by key with a record written: the record, and the others of other keys. -/
theorem upsert_perm {α : Type} {key : α → Nat} (x : α) : ∀ {l : List α}, (l.map key).Pairwise (· < ·) →
    (upsert key x l).Perm (x :: l.filter (fun y => key y ≠ key x))
  | [], _ => List.Perm.refl _
  | y :: rest, h => by
    obtain ⟨above, rising⟩ := List.pairwise_cons.1 h
    have keep : key x ≤ key y → rest.filter (fun z => key z ≠ key x) = rest := fun hxy =>
      List.filter_eq_self.2 (fun z hz => by
        have := above _ (List.mem_map_of_mem hz)
        simp
        omega)
    unfold upsert
    split
    · next below =>
      rw [List.filter_cons_of_pos (by simp; omega), keep below.le]
    · split
      · next same => rw [List.filter_cons_of_neg (by simp [same]), keep same.le]
      · next other =>
        rw [List.filter_cons_of_pos (by simpa using fun e => other e.symm)]
        exact (List.Perm.cons y (upsert_perm x rising)).trans (List.Perm.swap x y _)

/-- The stations of a kind after one is defined of it: that one, and the others of the kind (R5). -/
theorem stations_of_kind {l : List StationDef} (h : (l.map StationDef.address).Pairwise (· < ·)) (a : Nat) (kind : StationKind) :
    ((upsert StationDef.address { address := a, kind } l).filter (fun d => d.kind == kind)).length =
      (l.filter (fun d => d.address ≠ a ∧ d.kind = kind)).length + 1 := by
  rw [((upsert_perm _ h).filter _).length_eq, List.filter_cons_of_pos (by simp), List.filter_filter, List.length_cons]
  congr 2
  refine List.filter_congr fun d _ => ?_
  simp [Bool.and_comm, beq_eq_decide]

/-- STATION_DEFINE's DEFINE of an address and a kind of the part (R5). -/
theorem defineStation_eq {b : List Byte} {kind : StationKind} (define : byteAt b 2 = 0)
    (address : 1 ≤ byteAt b 3 ∧ byteAt b 3 ≤ 63) (known : stationKindOf (byteAt b 4) = some kind) {s : State}
    (rising : s.layout.stationsRising) : defineStation b s =
      if stationLimit kind ≤ (s.layout.stations.filter (fun d => d.address ≠ byteAt b 3 ∧ d.kind = kind)).length then
        (s, .refuse .noRoom)
      else
        ({ s with
          layout :=
            { s.layout with
              stations := upsert StationDef.address { address := byteAt b 3, kind } s.layout.stations } }, .ok []) := by
  unfold defineStation
  dsimp only
  rw [if_neg (by simpa [define, addressOk] using address), known]
  dsimp only
  rw [stations_of_kind rising]
  exact if_congr Nat.lt_succ_iff rfl rfl

/-- STATION_DEFINE's REMOVE (R5). -/
theorem removeStation_eq (b : List Byte) (s : State) : removeStation b s =
    if byteAt b 3 < 1 ∨ 63 < byteAt b 3 then (s, .refuse .badValue)
    else if (s.layout.station? (byteAt b 3)).isNone then (s, .refuse .notFound)
    else
      ({ s with layout := { s.layout with stations := s.layout.stations.filter (fun d => d.address != byteAt b 3) } }, .ok []) := by
  unfold removeStation
  dsimp only
  exact if_congr (by simp [addressOk]; omega) rfl (ite_any _ _ _ _)

/-- Settles O12: the same of stations, whose kinds have limits: the redefined address is not counted. -/
theorem stationDefinitions : Obligations.StationDefinitions := by
  intro s tag mode rising
  refine ⟨?_, ?_, ?_, ?_⟩
  · intro address code kind limit body others row low high taken
    have known : stationKindOf code.toNat = some kind ∧ stationLimit kind = limit := by
      rw [stationKindOf_iff]
      simp only [List.mem_cons, Prod.mk.injEq, List.not_mem_nil, or_false] at row ⊢
      rcases row with ⟨h, rfl, rfl⟩ | ⟨h, rfl, rfl⟩ | ⟨h, rfl, rfl⟩ | ⟨h, rfl, rfl⟩ <;> simp [h, stationLimit]
    have acted := defineStation_eq (b := body) rfl ⟨low, high⟩ known.1 rising
    rw [known.2] at acted
    refine ⟨fun full => ?_, fun room => ⟨upsert StationDef.address { address := address.toNat, kind } s.layout.stations, ?_,
      upsert_rising rising, fun a => find?_upsert_key StationDef.address { address := address.toNat, kind } s.layout.stations a⟩⟩
    · have act : stationDefineRequest.act body s = (s, .refuse .noRoom) := acted.trans (if_pos full)
      exact exec_acts rfl taken rfl rfl (inUnconfigured_eq mode) act
    · have act := acted.trans (if_neg (Nat.not_le.2 room))
      exact exec_acts (q := stationDefineRequest) rfl taken rfl rfl (inUnconfigured_eq mode) act
  · intro address code body out taken
    have act : stationDefineRequest.act body s = (s, .refuse .badValue) := by
      dsimp only [stationDefineRequest, defineStation]
      by_cases addressed : addressOk address.toNat = true
      · have unknown : stationKindOf (byteAt body 4) = none := stationKindOf_none (by
          have bounds : 1 ≤ address.toNat ∧ address.toNat ≤ 63 := by simpa [addressOk] using addressed
          show code.toNat < 1 ∨ 4 < code.toNat
          omega)
        refine (if_neg ?_).trans ?_
        · exact fun h => h.elim (fun h => h rfl) (fun h => absurd addressed (by rw [show addressOk address.toNat = false from h]; decide))
        · rw [unknown]
      · exact if_pos (.inr (Bool.eq_false_of_not_eq_true addressed))
    exact exec_acts rfl taken rfl rfl (inUnconfigured_eq mode) act
  · intro address body taken
    refine (exec_taken rfl taken rfl rfl (inUnconfigured_eq mode)).trans (congrArg Host.Outcome.next ?_)
    refine (congrArg (State.answered body) (removeStation_eq body s)).trans ?_
    exact answered_ite₂ body _ _ _
  · intro action fields body unknown length taken
    have act : stationDefineRequest.act body s = (s, .refuse .badValue) := if_pos (.inl (by
      show action.toNat ≠ 0
      omega))
    refine exec_acts rfl taken (ofKindElse_request (k := 0x03) (v := 1) (by decide) (by omega)) (byForm_request unknown ?_)
      (inUnconfigured_eq mode) act
    omega

end Sys2Proof.Machine
end

section
/-!
PROOFS. Parameters, the clock and the timers (O15, O16, O58): a list of pairs set all or none, a second of crystal time at every running
timer, and the expiries.
-/
namespace Sys2Proof.Machine

/-! ### TIMING_SET -/

/-- The items of a list read back from the bytes that hold it. -/
theorem itemsAt_flatten {size : Nat} {b : List Byte} : ∀ {items : List (List Byte)} {i : Nat},
    (∀ x ∈ items, x.length = size) → b.drop i = items.flatten → itemsAt size b items.length i = items
  | [], _, _, _ => rfl
  | x :: rest, i, sizes, at_ => by
    have hx := sizes x List.mem_cons_self
    rw [List.flatten_cons] at at_
    have tail : b.drop (i + size) = rest.flatten := by
      rw [← List.drop_drop, at_, ← hx, List.drop_left]
    rw [List.length_cons, itemsAt, at_, ← hx, List.take_left, hx,
      itemsAt_flatten (fun y hy => sizes y (List.mem_cons_of_mem _ hy)) tail]

/-- A TIMING_SET body's list of pairs. -/
def timingBytes (pairs : List (Byte × Word)) : List (List Byte) := pairs.map (fun p => p.1 :: u16 p.2.toNat)

theorem timingBytes_length (pairs : List (Byte × Word)) : (timingBytes pairs).flatten.length = 3 * pairs.length := by
  induction pairs with
  | nil => rfl
  | cons p rest ih =>
    simp only [timingBytes, List.map_cons, List.flatten_cons, List.length_append] at ih ⊢
    rw [ih]
    simp [u16]
    omega

/-- The pairs that a TIMING_SET body carries. -/
theorem timingPairs_request {pairs : List (Byte × Word)} (h : pairs.length < 256) (tag : Byte) :
    timingPairs (request 0x05 tag (u8 pairs.length ++ (timingBytes pairs).flatten)) =
      pairs.map (fun p => (p.1.toNat, p.2.toNat)) := by
  have count : byteAt (request 0x05 tag (u8 pairs.length ++ (timingBytes pairs).flatten)) 2 = (timingBytes pairs).length := by
    simp [request, byteAt, u8, timingBytes, Nat.mod_eq_of_lt h]
  have items : listAt 3 2 (request 0x05 tag (u8 pairs.length ++ (timingBytes pairs).flatten)) = timingBytes pairs := by
    rw [listAt, count]
    refine itemsAt_flatten (fun x hx => ?_) rfl
    obtain ⟨p, -, rfl⟩ := List.mem_map.1 hx
    rfl
  rw [timingPairs, items, timingBytes, List.map_map]
  refine List.map_congr_left fun p _ => ?_
  exact Prod.ext rfl (word_bytes p.2)

/-- The ranges of Table 1-5. -/
theorem paramOk_iff (number v : Nat) : paramOk number v = true ↔
    (∃ r ∈ [((1 : Nat), (1 : Nat), (30 : Nat)), (2, 1, 30), (3, 1, 10), (4, 15, 255), (5, 0, 30), (6, 0, 8), (7, 0, 1439),
        (8, 0, 1), (10, 1, 15), (11, 1, 10), (12, 100, 1000), (13, 1, 10)], r.1 = number ∧ r.2.1 ≤ v ∧ v ≤ r.2.2) ∨
      (number = 9 ∧ v ∈ [0, 1, 2, 4, 8, 16]) := by
  unfold paramOk
  split
  case h_14 => simp_all [eq_comm]
  all_goals simp

theorem noRepeats_iff : ∀ l : List Nat, noRepeats l = true ↔ l.Nodup
  | [] => by simp [noRepeats]
  | x :: rest => by simp [noRepeats, noRepeats_iff rest]

/-- A list of parameters set, no number twice: each named one takes its value, and every other keeps its own (R8). -/
theorem Params.values_setAll : ∀ {pairs : List (Nat × Nat)} {p : Params}, (∀ v ∈ pairs, paramOk v.1 v.2 = true) →
    (pairs.map Prod.fst).Nodup → ∀ i, (pairs.foldl (fun p v => p.set v.1 v.2) p).values.getD i 0 =
      match pairs.find? (fun v => v.1 == i + 1) with
      | some v => v.2
      | none => p.values.getD i 0
  | [], _, _, _, _ => rfl
  | v :: rest, p, ok, once, i => by
    obtain ⟨fresh, once⟩ := List.nodup_cons.1 once
    have hv := ok v List.mem_cons_self
    have tail := Params.values_setAll (p := p.set v.1 v.2) (fun w hw => ok w (List.mem_cons_of_mem _ hw)) once i
    rw [List.foldl_cons, tail, Params.values_set p hv, List.find?_cons]
    by_cases here : i + 1 = v.1
    · have gone : rest.find? (fun w => w.1 == i + 1) = none :=
        List.find?_eq_none.2 (fun w hw e => fresh (by
          rw [← here, ← beq_iff_eq.1 e]
          exact List.mem_map_of_mem hw))
      rw [gone, if_pos here, beq_iff_eq.2 here.symm]
    · rw [if_neg here, beq_eq_false_iff_ne.2 (fun e => here e.symm)]

/-- Settles O15: the body's pairs are read back whole, so the checks are those of Table 1-5 and each number's value is found by it. -/
theorem parametersSet : Obligations.ParametersSet := by
  intro s tag pairs body ranges inTable passes low high taken
  have carried : timingPairs body = pairs.map (fun p => (p.1.toNat, p.2.toNat)) := timingPairs_request (by omega) tag
  have length : timingSetRequest.length body = true := by
    have count : byteAt body 2 = pairs.length := by
      simp [body, request, byteAt, u8, Nat.mod_eq_of_lt (show pairs.length < 256 by omega)]
    have total : body.length = 3 + 3 * pairs.length := by
      have := timingBytes_length pairs
      simp only [timingBytes] at this
      simp only [body, request, u8, List.length_cons, List.length_append, this, List.length_nil]
      omega
    simp [timingSetRequest, counted, count, total, low, high]
    omega
  have test : ((timingPairs body).all (fun p => paramOk p.1 p.2) && noRepeats ((timingPairs body).map Prod.fst)) = true ↔ passes := by
    rw [carried, Bool.and_eq_true, noRepeats_iff, List.map_map]
    refine and_congr ?_ ?_
    · simp only [List.all_map, List.all_eq_true, Function.comp_apply]
      exact forall₂_congr fun p _ => paramOk_iff _ _
    · rw [← List.nodup_map_iff (f := BitVec.toNat) (fun _ _ => BitVec.eq_of_toNat_eq), List.map_map]
      rfl
  refine ⟨fun fails => ?_, fun ok => ?_⟩
  · have act : timingSetRequest.act body s = (s, .refuse .badValue) := if_neg (fun h => fails (test.1 h))
    exact exec_acts rfl taken rfl length (anyMode_eq _) act
  · have checked := test.2 ok
    have inRange : ∀ v ∈ timingPairs body, paramOk v.1 v.2 = true := by
      rw [Bool.and_eq_true, List.all_eq_true] at checked
      exact checked.1
    have once : ((timingPairs body).map Prod.fst).Nodup := (noRepeats_iff _).1 (Bool.and_eq_true_iff.1 checked).2
    refine ⟨(timingPairs body).foldl (fun p v => p.set v.1 v.2) s.env.params, fun i _ => ?_, ?_⟩
    · rw [Params.values_setAll inRange once, carried, List.find?_map]
      dsimp only [Function.comp_def]
      cases pairs.find? (fun p => p.1.toNat == i + 1) <;> rfl
    · have act := exec_taken (c := .timingSet) rfl taken rfl length (anyMode_eq _)
      refine act.trans (congrArg (fun r => Host.Outcome.next (State.answered body r)) (if_pos checked))

/-! ### The clock -/

theorem Timer.tick_eq : Timer.tick = Timer.run 1 := by
  funext t
  cases t <;> rfl

theorem Bus.tick_eq : Bus.tick = fun b => { b with holdTimer := b.holdTimer.run 1 } := by
  funext b
  rw [Bus.tick, Timer.tick_eq]

theorem Point.tick_eq :
    Point.tick = fun q => { q with callTimer := q.callTimer.run 1, recoveryTimer := q.recoveryTimer.run 1 } := by
  funext q
  rw [Point.tick, Timer.tick_eq]

theorem Lane.tick_eq :
    Lane.tick = fun l => { l with reservations := l.reservations.map (fun r => { r with entryTimer := r.entryTimer.run 1 }) } := by
  funext l
  have : Reservation.tick = fun r => { r with entryTimer := r.entryTimer.run 1 } := by
    funext r
    rw [Reservation.tick, Timer.tick_eq]
  rw [Lane.tick, this]

theorem Departure.tick_eq : Departure.tick = fun d => { d with lapse := d.lapse.run 1 } := by
  funext d
  rw [Departure.tick, Timer.tick_eq]

/-- A second of crystal time: one second less on every running timer of the yard (log 4). -/
theorem Yard.tick_eq (y : Yard) : y.tick =
    { y with
      supTimer := y.supTimer.run 1
      fleet := y.fleet.map (fun b => { b with holdTimer := b.holdTimer.run 1 })
      points := y.points.map (fun q => { q with callTimer := q.callTimer.run 1, recoveryTimer := q.recoveryTimer.run 1 })
      lanes := y.lanes.map (fun l =>
        { l with reservations := l.reservations.map (fun r => { r with entryTimer := r.entryTimer.run 1 }) })
      departures := y.departures.map (fun d => { d with lapse := d.lapse.run 1 })
      pacing := y.pacing.run 1 } := by
  rw [Yard.tick, Bus.tick_eq, Point.tick_eq, Lane.tick_eq, Departure.tick_eq, Timer.tick_eq]

/-- Settles O16: the second carried by the body, and a second of crystal time short of the last. -/
theorem clockSetAndAdvanced : Obligations.ClockSetAndAdvanced := by
  refine ⟨?_, fun s high below => ?_⟩
  · intro s tag high middle low body second taken
    have carried : tripleAt body 2 = second := (Nat.add_assoc _ _ _).symm
    have act : clockSetRequest.act body s =
        if second ≤ 86399 then ({ s with env := { s.env with clock := second } }, .ok []) else (s, .refuse .badValue) := by
      dsimp only [clockSetRequest, setClock]
      rw [carried]
      rfl
    refine (exec_taken rfl taken rfl rfl (anyMode_eq _)).trans (congrArg Host.Outcome.next ?_)
    rw [act]
    exact apply_ite (State.answered body) _ _ _
  · show Host.Outcome.next (s.powered State.secondEnds) = _
    rw [State.powered_high high, State.secondEnds, if_neg (show ¬ Config.lastSecond ≤ s.env.clock from Nat.not_le.2 below), Yard.tick_eq]

/-! ### Expiries -/

/-- An event of the yard while RSTN is high. -/
theorem State.yardEvent_high {s : State} (h : s.rstnLow = false) (g : Env → Yard → Yard) :
    s.yardEvent g = s.withYard (g s.env s.yard) := State.powered_high h _

theorem State.withYard_self (s : State) : s.withYard s.yard = s := rfl

/-- A hold expiry of a bus in HOLD: its timer and repeat count cleared, the plan advanced past the HOLD (R48). -/
theorem Yard.holdLapse_eq (e : Env) {f : Nat} {b : Bus} {y : Yard} (hb : y.bus? f = some b) (hold : b.wait = .hold)
    (runs : b.holdTimer.isSome) : y.holdLapse e f =
      ((y.setBus f (fun b => { b with holdTimer := none })).setBus f (fun b => { b with repeatCount := none })).advanceSteps e f
        16 none (b.cursor.getD 0 + 1) := by
  have found : (y.setBus f (fun b => { b with holdTimer := none })).bus? f = some { b with holdTimer := none } := by
    rw [Yard.bus_setBus _ _ _ (by intro; rfl), if_pos rfl, hb]
    rfl
  rw [Yard.holdLapse, hb]
  dsimp only
  rw [if_pos ⟨hold, runs⟩, Yard.advancePast, found]
  rfl

/-- A hold expiry of a bus that is not held, or whose timer does not run, does nothing (log 1). -/
theorem Yard.holdLapse_idle (e : Env) {f : Nat} {b : Bus} {y : Yard} (hb : y.bus? f = some b)
    (idle : b.wait ≠ .hold ∨ b.holdTimer = none) : y.holdLapse e f = y := by
  rw [Yard.holdLapse, hb]
  refine if_neg fun ⟨hold, runs⟩ => ?_
  rcases idle with h | h
  · exact h hold
  · rw [h] at runs
    cases runs

theorem Rounds.lapse_idle (p : Params) (r : Rounds) :
    (r.urgentTimer = none → r.lapse p .urgent = r) ∧ (r.routineTimer = none → r.lapse p .routine = r) :=
  ⟨fun h => if_neg (by rw [h]; decide), fun h => if_neg (by rw [h]; decide)⟩

/-- Settles O58: an expiry whose timer does not run changes nothing; one whose timer runs is its owner's reaction. -/
theorem timersExpire : Obligations.TimersExpire := by
  intro s high e y r
  have event : ∀ g : Env → Yard → Yard, g s.env s.yard = s.yard →
      (Host.Outcome.next (s.yardEvent g) : Host.Outcome State Fault Refusal) = .next s := by
    intro g same
    rw [State.yardEvent_high high, same, State.withYard_self]
  have round : ∀ c : RoundClass, exec (.roundTimerExpiry c) s = .next { s with rounds := r.lapse e.params c } := fun c =>
    congrArg Host.Outcome.next (State.powered_high high _)
  refine ⟨fun stopped => ?_, ?_, fun f unknown => ?_, fun f b hb => ⟨fun idle => ?_, fun hold runs => ?_⟩,
    fun stopped => ?_, fun runs => ?_, fun stopped => ?_, fun runs => ?_⟩
  · exact event Yard.supervise (if_neg (by rw [show s.yard.supTimer = none from stopped]; decide))
  · intro runs looked lost lowered
    refine congrArg Host.Outcome.next ((State.yardEvent_high high _).trans (congrArg s.withYard ?_))
    exact if_pos runs
  · exact event (fun e => Yard.holdLapse e f) (by rw [Yard.holdLapse, show s.yard.bus? f = none from unknown])
  · exact event (fun e => Yard.holdLapse e f) (Yard.holdLapse_idle s.env hb idle)
  · exact congrArg Host.Outcome.next ((State.yardEvent_high high _).trans
      (congrArg s.withYard (Yard.holdLapse_eq s.env hb hold runs)))
  · rw [round, (Rounds.lapse_idle e.params r).1 stopped]
  · rw [round]
    exact congrArg (fun t => Host.Outcome.next { s with rounds := t }) (if_pos runs)
  · rw [round, (Rounds.lapse_idle e.params r).2 stopped]
  · rw [round]
    exact congrArg (fun t => Host.Outcome.next { s with rounds := t }) (if_pos runs)

end Sys2Proof.Machine
end

section
/-!
PROOFS. The rollover (O17): the day's beginning, and the departures missed one by one. A missed departure leaves the list and is
reported; what its key change does besides is what Laws/Frames says of every key change.
-/
namespace Sys2Proof.Machine

/-! ### Tallies -/

theorem Notices.InForm.tally_le {u : Notices} (h : u.InForm) (i : Nat) : u.tallies.getD i 0 ≤ 65535 := by
  obtain ⟨-, -, -, tallies, -, -⟩ := h
  rw [List.getD_eq_getElem?_getD]
  cases at_ : u.tallies[i]? with
  | none => exact Nat.zero_le _
  | some t => exact tallies t (List.mem_of_getElem? at_)

/-- A posting counts its kind (R176). -/
theorem Notices.InForm.tally_post {u : Notices} (h : u.InForm) (c : Nat) (k : NoticeKind) (f : Nat) (p : Option Place) (n q : Nat) :
    (u.post c k f p n q).tallies.getD (k.num - 1) 0 = min 65535 (u.tallies.getD (k.num - 1) 0 + 1) := by
  obtain ⟨-, -, length, -, -, -⟩ := h
  have inside : k.num - 1 < u.tallies.length := by
    rw [length]
    cases k <;> decide
  rw [Notices.tallies_post, List.getD_eq_getElem?_getD, List.getElem?_set_self inside]
  rfl

/-! ### Departures missed -/

/-- The notices that missed departures post (R97, R101, R139). -/
def missKinds : List NoticeKind := [.berthAssigned, .laneDisorder, .missedSlot]

/-- The departure list does not bear on a grant of berths. -/
theorem Yard.Berths.withDepartures {kinds : List NoticeKind} {y z : Yard} (h : y.Berths kinds z) (l : List Departure) :
    ({ y with departures := l } : Yard).Berths kinds { z with departures := l } :=
  { h with departures := rfl }

/-- A missed departure leaves the list; besides, berths are granted and lanes recomputed (R139). -/
theorem Yard.missSlot_berths (e : Env) (y : Yard) (d : Departure) : (y.dropDeparture d.bus).Berths missKinds (y.missSlot e d) :=
  (Yard.Berths.post e (by decide) _ _ _ _ _).trans (.keyChanged (by decide) (by decide) e _ _)

theorem Yard.missSlot_tally (e : Env) {y : Yard} (h : y.Bounded e.params) (d : Departure) :
    (y.missSlot e d).notices.tallies.getD 36 0 = min 65535 (y.notices.tallies.getD 36 0 + 1) :=
  ((Yard.Berths.keyChanged (kinds := [.berthAssigned, .laneDisorder]) (by decide) (by decide) e _ _).silent .missedSlot
    (by decide)).trans (h.notices.tally_post _ .missedSlot _ _ _ _)

theorem Yard.missSlots_berths (e : Env) : ∀ (l : List Departure) (y : Yard),
    ({ y with departures := y.departures.filter (fun c => !(l.map Departure.bus).contains c.bus) } : Yard).Berths missKinds
      (l.foldl (Yard.missSlot e) y)
  | [], y => by
    have all : y.departures.filter (fun c => !(([] : List Departure).map Departure.bus).contains c.bus) = y.departures :=
      List.filter_eq_self.2 (fun _ _ => rfl)
    rw [all]
    exact .refl _ _
  | d :: rest, y => by
    have kept := (Yard.missSlot_berths e y d).departures
    have first := (Yard.missSlot_berths e y d).withDepartures
      ((y.missSlot e d).departures.filter (fun c => !(rest.map Departure.bus).contains c.bus))
    have list : (y.missSlot e d).departures.filter (fun c => !(rest.map Departure.bus).contains c.bus) =
        y.departures.filter (fun c => !((d :: rest).map Departure.bus).contains c.bus) := by
      rw [kept]
      refine (List.filter_filter ..).trans (List.filter_congr fun c _ => ?_)
      rw [List.map_cons, List.contains_cons, Bool.not_or, Bool.and_comm]
      rfl
    have after := first.trans (Yard.missSlots_berths e rest (y.missSlot e d))
    rw [list] at after
    exact after

theorem Yard.missSlots_tally (e : Env) : ∀ (l : List Departure) {y : Yard}, y.Bounded e.params →
    (l.foldl (Yard.missSlot e) y).notices.tallies.getD 36 0 = min 65535 (y.notices.tallies.getD 36 0 + l.length)
  | [], y, h => (Nat.min_eq_right (h.notices.tally_le 36)).symm
  | d :: rest, y, h => by
    have := Yard.missSlots_tally e rest (h.missSlot d)
    rw [List.foldl_cons, this, Yard.missSlot_tally e h, List.length_cons]
    omega

theorem Yard.missSlots_granted (e : Env) (l : List Departure) (y : Yard) : y.BerthsGranted (l.foldl (Yard.missSlot e) y) :=
  Yard.BerthsGranted.foldl (op := Yard.missSlot e)
    (fun z d => Yard.BerthsGranted.trans (y := (z.dropDeparture d.bus).post e .missedSlot _ _ _ _) (.same rfl) (.keyChanged e _ _)) l y

/-! ### The day begun -/

/-- The yard at a rollover before its departures are missed: a second less on every timer, DAY_ROLLED posted, the nightly fields and
tallies cleared, the pull-out ended (R11, R31, R79, R95, R139). -/
def Yard.dayBegun (e : Env) (x : Yard) : Yard :=
  { x.post e .dayRolled 0 none 0 0 with
    pullout := false
    pacing := none
    supTimer := x.supTimer.run 1
    fleet := x.fleet.map (fun b => { b with missedCalls := 0, residue := 0, fuelTaken := 0, holdTimer := b.holdTimer.run 1 })
    points := x.points.map (fun q =>
      { q with callTimer := q.callTimer.run 1, recoveryTimer := q.recoveryTimer.run 1, tally := 0 })
    lanes := x.lanes.map (fun l =>
      { l with reservations := l.reservations.map (fun r => { r with entryTimer := r.entryTimer.run 1 }) })
    departures := x.departures.map (fun d => { d with lapse := d.lapse.run 1 }) }

/-- The day's beginning in the model's own steps. -/
theorem Yard.dayBegun_eq (e : Env) (x : Yard) : x.dayBegun e =
    { x.tick.post e .dayRolled 0 none 0 0 with
      fleet := x.tick.fleet.map Bus.newDay
      points := x.tick.points.map (fun q => { q with tally := 0 })
      pullout := false
      pacing := none } := by
  rw [Yard.tick_eq]
  dsimp only [Yard.post, Yard.dayBegun]
  rw [List.map_map, List.map_map]
  rfl

theorem Yard.newDay_tick (e : Env) (x : Yard) : x.tick.newDay e =
    (x.departures.filter (fun d => d.state.unreleased)).foldl (Yard.missSlot e) (x.dayBegun e) := by
  have model : x.tick.newDay e =
      ((x.dayBegun e).departures.filter (fun d => d.state.unreleased)).foldl (Yard.missSlot e) (x.dayBegun e) := by
    rw [Yard.dayBegun_eq]
    rfl
  have list : (x.dayBegun e).departures = x.departures.map (fun d => { d with lapse := d.lapse.run 1 }) := rfl
  rw [model, list, List.filter_map, List.foldl_map]
  rfl

theorem Yard.Bounded.dayBegun {e : Env} {x : Yard} (h : x.Bounded e.params) : (x.dayBegun e).Bounded e.params := by
  have posted := h.tick.post e .dayRolled 0 none 0 0
  have cleared := posted.mapFleet Bus.newDay (fun _ => rfl) (fun b hb => ⟨hb.age, Nat.zero_le _, Nat.zero_le _⟩)
  have tallied := Yard.withPoints_bounded (l := x.tick.points.map (fun q => { q with tally := 0 })) (by
    rw [List.map_map]
    rfl) cleared
  rw [Yard.dayBegun_eq]
  exact tallied.same rfl le_rfl rfl rfl rfl rfl rfl

theorem Yard.dayBegun_bus (e : Env) (x : Yard) (f : Nat) : (x.dayBegun e).bus? f =
    (x.bus? f).map (fun b => { b with missedCalls := 0, residue := 0, fuelTaken := 0, holdTimer := b.holdTimer.run 1 }) :=
  List.find?_map ..

/-- With one entry to a bus, the entries of no missed bus are those that are not missed. -/
theorem filter_not_missed {p : Departure → Bool} {l : List Departure} (once : (l.map Departure.bus).Nodup) :
    l.filter (fun c => !((l.filter p).map Departure.bus).contains c.bus) = l.filter (fun c => !p c) := by
  refine List.filter_congr fun c hc => congrArg _ (Bool.eq_iff_iff.2 ?_)
  rw [List.contains_iff_mem, List.mem_map]
  constructor
  · rintro ⟨d, hd, same⟩
    obtain ⟨hd, missed⟩ := List.mem_filter.1 hd
    exact List.inj_on_of_nodup_map once hd hc same ▸ missed
  · exact fun missed => ⟨c, List.mem_filter.2 ⟨hc, missed⟩, rfl⟩

theorem DepartureState.unreleased_eq (d : DepartureState) : d.unreleased = !(d == .released || d == .outbound) := by
  cases d <;> rfl

/-- The place of MISSED_SLOT: the lane that holds the bus. -/
theorem lanePlace_of_bus (b : Option Bus) : b.bind (fun b => b.position.lanePlace) =
    match b.map Bus.position with
    | some (.inLane n) => some (.lane n)
    | _ => none := by
  rcases b with _ | b
  · rfl
  · rw [Option.map_some, Option.bind_some]
    cases b.position <;> rfl

/-- Settles O17: the day begun, then a fold of missed departures that the rules about one of them carry through. -/
theorem dayRollover : Obligations.DayRollover := by
  intro s high
  refine ⟨fun below => ?_, fun last bounded => ?_⟩
  · refine congrArg Host.Outcome.next ((State.powered_high high _).trans ?_)
    exact if_neg (show ¬ s.env.clock = Config.lastSecond from Nat.ne_of_lt below)
  intro x e leaving begun missed
  have unreleased : (fun d : Departure => d.state.unreleased) = fun d => !leaving d :=
    funext fun d => d.state.unreleased_eq
  have miss : Yard.missSlot e = missed := by
    funext z d
    dsimp only [Yard.missSlot, missed]
    rw [lanePlace_of_bus, DepartureState.code_eq]
    rfl
  have rolled : s.yard.tick.newDay e = (x.departures.filter (fun d => !leaving d)).foldl missed begun := by
    rw [Yard.newDay_tick, unreleased, miss]
    rfl
  have ends : s.rollOver =
      { s with env := e, yard := (x.departures.filter (fun d => !leaving d)).foldl missed begun } :=
    congrArg (fun y => ({ s with env := e, yard := y } : State)) rolled
  have begins : begun.Bounded e.params := Yard.Bounded.dayBegun (e := e) bounded
  have kept := Yard.missSlots_berths e (x.departures.filter (fun d => !leaving d)) begun
  have granted := Yard.missSlots_granted e (x.departures.filter (fun d => !leaving d)) begun
  have tally := Yard.missSlots_tally e (x.departures.filter (fun d => !leaving d)) begins
  rw [miss] at kept granted tally
  have once : (begun.departures.map Departure.bus).Nodup := begins.oneEntry
  have missedBuses : (x.departures.filter (fun d => !leaving d)).map Departure.bus =
      (begun.departures.filter (fun d => !leaving d)).map Departure.bus := by
    rw [show begun.departures = x.departures.map (fun d => { d with lapse := d.lapse.run 1 }) from rfl, List.filter_map,
      List.map_map]
    rfl
  have stay : begun.departures.filter (fun c => !((x.departures.filter (fun d => !leaving d)).map Departure.bus).contains c.bus) =
      (x.departures.filter leaving).map (fun d => { d with lapse := d.lapse.run 1 }) := by
    rw [missedBuses, filter_not_missed once]
    simp only [Bool.not_not]
    exact List.filter_map ..
  refine ⟨_, rfl, fun f b hb => ?_, ?_, ?_, kept.pullout, kept.pacing, kept.supTimer, kept.departures.trans stay, kept.points,
    fun f => ?_, kept.fuelPriority, kept.fuelOrdinary, kept.washQueue, kept.frost, kept.stations, kept.inFlight, ?_, ?_⟩
  · refine granted f { b with missedCalls := 0, residue := 0, fuelTaken := 0, holdTimer := b.holdTimer.run 1 } ?_
    exact (Yard.dayBegun_bus e x f).trans (congrArg (Option.map _) hb)
  · refine congrArg Host.Outcome.next ((State.powered_high high _).trans ((if_pos ?_).trans ends))
    exact last
  · refine congrArg Host.Outcome.next ((State.powered_high high _).trans ((if_pos ?_).trans ends))
    exact (show Config.lastSecond ≤ s.env.clock from last.ge)
  · refine (kept.bus f).trans ((congrArg (Option.map _) (Yard.dayBegun_bus e x f)).trans ?_)
    exact Option.map_map ..
  · exact (kept.silent .dayRolled (by decide)).trans (bounded.notices.tally_post _ .dayRolled _ _ _ _)
  · have before : begun.notices.tallies.getD 36 0 = x.notices.tallies.getD 36 0 :=
      Notices.tally_post_other (k := .missedSlot) (kind := .dayRolled) (by decide) _ _ _ _ _
    exact tally.trans (congrArg (fun n => min 65535 (n + _)) before)

end Sys2Proof.Machine
end

section
/-!
PROOFS. The fleet table (O23 to O26): a record enrolled, its fields set all or none, the bus report and the list of fleet numbers,
and what a withdrawal leaves.
-/
namespace Sys2Proof.Machine

/-! ### Fields of a body -/

/-- A fleet number field in its range (0.5). -/
theorem fleetOk_iff (fleet : Word) : fleetOk fleet.toNat = true ↔ fleetValid fleet := by
  simp [fleetOk, fleetValid]

/-- DIESEL 0, GAS 1 (Table 11-7). -/
theorem fuelKindOf_eq (k : Nat) : fuelKindOf k = if k ≤ 1 then some (if k = 0 then .diesel else .gas) else none := by
  rcases k with _ | _ | k <;> simp [fuelKindOf]

/-- STANDARD 0, ARTICULATED 1 (Table 11-7). -/
theorem busLengthOf_eq (k : Nat) :
    busLengthOf k = if k ≤ 1 then some (if k = 0 then .standard else .articulated) else none := by
  rcases k with _ | _ | k <;> simp [busLengthOf]

/-- A home plan: an address of the plan store, or 65535 for none (R16). -/
theorem homePlanOf_eq (v : Nat) :
    homePlanOf v = if v ≤ 511 ∨ v = 65535 then some (if v = 65535 then none else some v) else none := by
  unfold homePlanOf Config.planSlots
  split_ifs <;> first | rfl | omega

/-! ### BUS_ENROL -/

/-- The record of a BUS_ENROL body whose fields are all in range (R16). -/
theorem enrolOf_eq (b : List Byte) : enrolOf b =
    if fleetOk (wordAt b 2) = true ∧ byteAt b 4 ≤ 1 ∧ byteAt b 5 ≤ 1 ∧ byteAt b 6 ≤ 15 ∧
        (wordAt b 7 ≤ 511 ∨ wordAt b 7 = 65535) then
      some (Bus.enrolled (wordAt b 2) (if byteAt b 4 = 0 then .diesel else .gas)
        (if byteAt b 5 = 0 then .standard else .articulated) (byteAt b 6)
        (if wordAt b 7 = 65535 then none else some (wordAt b 7)))
    else none := by
  rw [enrolOf, fuelKindOf_eq, busLengthOf_eq, homePlanOf_eq]
  by_cases kind : byteAt b 4 ≤ 1
  · by_cases length : byteAt b 5 ≤ 1
    · by_cases home : wordAt b 7 ≤ 511 ∨ wordAt b 7 = 65535
      · simp only [kind, length, home, if_true, true_and, and_true]
      · simp only [kind, length, home, if_true, if_false, and_false]
    · simp [length]
  · simp [kind]

/-- A record under a new key is one more (R16). -/
theorem upsert_length {α : Type} {key : α → Nat} {x : α} : ∀ {l : List α}, (∀ y ∈ l, key y ≠ key x) →
    (upsert key x l).length = l.length + 1
  | [], _ => rfl
  | y :: rest, other => by
    unfold upsert
    split
    · rfl
    · rw [if_neg (fun same => other y List.mem_cons_self same.symm), List.length_cons,
        upsert_length (fun z hz => other z (List.mem_cons_of_mem _ hz)), List.length_cons]

/-- A fleet number that the map does not hold is no record's. -/
theorem Yard.bus_none {f : Nat} {y : Yard} (h : y.bus? f = none) : ∀ b ∈ y.fleet, b.fleet ≠ f := by
  simpa using List.find?_eq_none.1 h

/-- Settles O23: the body's fields are those of the record, and the checks of R16 stand in their order. -/
theorem busEnrolled : Obligations.BusEnrolled := by
  intro s tag kind length routeClass fleet home body inRange taken
  classical
  let bus : Bus :=
    .enrolled fleet.toNat (if kind.toNat = 0 then .diesel else .gas) (if length.toNat = 0 then .standard else .articulated)
      routeClass.toNat (if home.toNat = 65535 then none else some home.toNat)
  have carried : enrolOf body = if inRange then some bus else none := by
    have fleetAt : wordAt body 2 = fleet.toNat := word_bytes fleet
    have homeAt : wordAt body 7 = home.toNat := word_bytes home
    rw [enrolOf_eq, fleetAt, homeAt]
    exact if_congr (and_congr (fleetOk_iff fleet) Iff.rfl) rfl rfl
  have answered {t : State} {r : Reply} (act : enrolBus body s = (t, r)) :
      exec .busEnrol s = .next (t.reply body r.result r.data) := exec_acts rfl taken rfl rfl (anyMode_eq _) act
  refine ⟨fun out => ?_, fun fits known => ?_, fun fits fresh full => ?_, fun fits fresh room => ?_⟩
  · refine answered (r := .refuse .badValue) ?_
    rw [enrolBus, carried, if_neg out]
    rfl
  · refine answered (r := .refuse .exists_) ?_
    rw [enrolBus, carried, if_pos fits]
    exact if_pos known
  · refine answered (r := .refuse .noRoom) ?_
    rw [enrolBus, carried, if_pos fits]
    exact (if_neg (Option.not_isSome_iff_eq_none.2 fresh)).trans (if_pos full)
  · refine ⟨upsert Bus.fleet bus s.yard.fleet, answered (r := .ok []) ?_, ?_, upsert_rising,
      find?_upsert_key Bus.fleet bus s.yard.fleet⟩
    · rw [enrolBus, carried, if_pos fits]
      exact (if_neg (Option.not_isSome_iff_eq_none.2 fresh)).trans (if_neg (Nat.not_le_of_lt room))
    · exact upsert_length (Yard.bus_none fresh)

/-! ### BUS_SET -/

/-- The value that a list of changes has for a field code. -/
def changeNamed (changes : List (Byte × Word)) (code : Nat) : Option Nat :=
  (changes.find? (fun c => c.1.toNat == code)).map (fun c => c.2.toNat)

/-- A value in the range of its field (R17). -/
def changeInRange (c : Byte × Word) : Prop :=
  (c.1.toNat ∈ [0, 1, 4, 5] ∧ c.2.toNat ≤ 1) ∨ (c.1.toNat = 2 ∧ (c.2.toNat ≤ 511 ∨ c.2.toNat = 65535)) ∨
    (c.1.toNat = 3 ∧ c.2.toNat ≤ 15)

/-- The record with the named fields changed, the others kept (R17). -/
def Bus.withNamed (named : Nat → Option Nat) (b : Bus) : Bus :=
  { b with
    fuelWanted := ((named 0).map (fun v => v == 1)).getD b.fuelWanted
    washWanted := ((named 1).map (fun v => v == 1)).getD b.washWanted
    homePlan := ((named 2).map (fun v => if v = 65535 then none else some v)).getD b.homePlan
    routeClass := (named 3).getD b.routeClass
    fuelKind := ((named 4).map (fun v => if v = 0 then .diesel else .gas)).getD b.fuelKind
    length := ((named 5).map (fun v => if v = 0 then .standard else .articulated)).getD b.length }

/-- The change that a field code and a value in range ask for. -/
def changeFor (c : Byte × Word) : BusChange :=
  match c.1.toNat with
  | 0 => .fuelWanted (c.2.toNat == 1)
  | 1 => .washWanted (c.2.toNat == 1)
  | 2 => .homePlan (if c.2.toNat = 65535 then none else some c.2.toNat)
  | 3 => .routeClass c.2.toNat
  | 4 => .fuelKind (if c.2.toNat = 0 then .diesel else .gas)
  | _ => .length (if c.2.toNat = 0 then .standard else .articulated)

/-- A BUS_SET body's list of changes. -/
def changeBytes (changes : List (Byte × Word)) : List (List Byte) := changes.map (fun c => c.1 :: u16 c.2.toNat)

/-- A change is read whole when its value is in range, and not at all otherwise. -/
theorem changeOf_iff (c : Byte × Word) (ch : BusChange) :
    changeOf (c.1 :: u16 c.2.toNat) = some ch ↔ changeInRange c ∧ ch = changeFor c := by
  have value : wordAt (c.1 :: u16 c.2.toNat) 1 = c.2.toNat := word_bytes c.2
  have code : byteAt (c.1 :: u16 c.2.toNat) 0 = c.1.toNat := rfl
  unfold changeOf changeInRange changeFor
  rw [value, code]
  rcases c.1.toNat with _ | _ | _ | _ | _ | _ | n <;>
    simp [flagOf_eq, homePlanOf_eq, fuelKindOf_eq, busLengthOf_eq, eq_comm]

/-- The changes of a list are read whole when every value is in range, and not at all otherwise. -/
theorem changesOf_iff : ∀ (changes : List (Byte × Word)) (read : List BusChange),
    changesOf (changeBytes changes) = some read ↔ (∀ c ∈ changes, changeInRange c) ∧ read = changes.map changeFor
  | [], read => by simp [changeBytes, changesOf, eq_comm]
  | c :: rest, read => by
    have cons : changesOf (changeBytes (c :: rest)) = some read ↔
        ∃ ch cs, changeOf (c.1 :: u16 c.2.toNat) = some ch ∧ changesOf (changeBytes rest) = some cs ∧ read = ch :: cs := by
      simp only [changeBytes, List.map_cons, changesOf]
      cases changeOf (c.1 :: u16 c.2.toNat) <;> cases changesOf (rest.map (fun c => c.1 :: u16 c.2.toNat)) <;>
        simp [eq_comm]
    simp only [cons, changeOf_iff, changesOf_iff rest, List.forall_mem_cons, List.map_cons]
    constructor
    · rintro ⟨_, _, ⟨hc, rfl⟩, ⟨hrest, rfl⟩, rfl⟩
      exact ⟨⟨hc, hrest⟩, rfl⟩
    · rintro ⟨⟨hc, hrest⟩, rfl⟩
      exact ⟨_, _, ⟨hc, rfl⟩, ⟨hrest, rfl⟩, rfl⟩

theorem changeNamed_cons (c : Byte × Word) (rest : List (Byte × Word)) (code : Nat) :
    changeNamed (c :: rest) code = if c.1.toNat = code then some c.2.toNat else changeNamed rest code := by
  by_cases h : c.1.toNat = code <;> simp [changeNamed, h]

/-- A field code that no change of the list has. -/
theorem changeNamed_none {changes : List (Byte × Word)} {code : Byte} (h : code ∉ changes.map Prod.fst) :
    changeNamed changes code.toNat = none := by
  refine Option.map_eq_none_iff.2 (List.find?_eq_none.2 fun c hc same => h ?_)
  rw [← BitVec.eq_of_toNat_eq (beq_iff_eq.1 same)]
  exact List.mem_map_of_mem hc

/-- One change, then others of other fields. -/
theorem Bus.withNamed_cons {c : Byte × Word} {rest : List (Byte × Word)} (inRange : changeInRange c)
    (fresh : changeNamed rest c.1.toNat = none) (b : Bus) :
    (b.apply (changeFor c)).withNamed (changeNamed rest) = b.withNamed (changeNamed (c :: rest)) := by
  have code : c.1.toNat ≤ 5 := by
    rcases inRange with ⟨h, -⟩ | ⟨h, -⟩ | ⟨h, -⟩
    · simp only [List.mem_cons, List.not_mem_nil, or_false] at h
      omega
    · omega
    · omega
  unfold Bus.withNamed changeFor
  simp only [changeNamed_cons]
  revert fresh code
  generalize c.1.toNat = n
  intro fresh code
  rcases n with _ | _ | _ | _ | _ | _ | n
  case succ.succ.succ.succ.succ.succ => omega
  all_goals simp [Bus.apply, fresh]

/-- Changes of different fields set each named field, in whatever order they stand. -/
theorem Bus.foldl_apply : ∀ {changes : List (Byte × Word)} (b : Bus), (∀ c ∈ changes, changeInRange c) →
    (changes.map Prod.fst).Nodup → (changes.map changeFor).foldl Bus.apply b = b.withNamed (changeNamed changes)
  | [], _, _, _ => rfl
  | c :: rest, b, inRange, once => by
    obtain ⟨fresh, once⟩ := List.nodup_cons.1 once
    obtain ⟨hc, hrest⟩ := List.forall_mem_cons.1 inRange
    exact (Bus.foldl_apply _ hrest once).trans (Bus.withNamed_cons hc (changeNamed_none fresh) b)

/-- A list that names fuel kind or length. -/
theorem any_ofBuild_iff : ∀ changes : List (Byte × Word), (∀ c ∈ changes, changeInRange c) →
    ((changes.map changeFor).any BusChange.ofBuild = true ↔
      (changeNamed changes 4).isSome ∨ (changeNamed changes 5).isSome)
  | [], _ => by simp [changeNamed]
  | c :: rest, inRange => by
    obtain ⟨hc, hrest⟩ := List.forall_mem_cons.1 inRange
    have one : (changeFor c).ofBuild = true ↔ c.1.toNat = 4 ∨ c.1.toNat = 5 := by
      revert hc
      unfold changeFor changeInRange
      rcases c.1.toNat with _ | _ | _ | _ | _ | _ | n <;> simp [BusChange.ofBuild]
    simp only [List.map_cons, List.any_cons, Bool.or_eq_true, one, any_ofBuild_iff rest hrest, changeNamed_cons]
    split_ifs <;> simp_all

/-- A plan wait that takes a start is NONE, ENDED or FAULTED (R37). -/
theorem PlanWait.startable_iff (w : PlanWait) : w.startable = true ↔ w.Idle := by
  cases w <;> simp [PlanWait.startable, PlanWait.Idle]

/-- OUTSIDE or LOOSE, as the model tests it. -/
theorem Position.free_iff (p : Position) : (p == .outside || p == .loose) = true ↔ p.Free := by
  simp [Position.Free]

theorem Bus.rebuildable_iff (b : Bus) : b.rebuildable = true ↔ b.position.Free ∧ b.wait.Idle := by
  rw [Bus.rebuildable, Bool.and_eq_true, Position.free_iff, PlanWait.startable_iff]

/-- The list of changes that a BUS_SET body carries. -/
theorem changeBytes_request {changes : List (Byte × Word)} (h : changes.length < 256) (tag : Byte) (fleet : Nat) :
    listAt 3 4 (request 0x11 tag (u16 fleet ++ u8 changes.length ++ (changeBytes changes).flatten)) = changeBytes changes := by
  have count : byteAt (request 0x11 tag (u16 fleet ++ u8 changes.length ++ (changeBytes changes).flatten)) 4 =
      (changeBytes changes).length := by
    simp [request, byteAt, u8, u16, changeBytes, Nat.mod_eq_of_lt h]
  rw [listAt, count]
  refine itemsAt_flatten (fun x hx => ?_) rfl
  obtain ⟨c, -, rfl⟩ := List.mem_map.1 hx
  rfl

/-- A BUS_SET body of 1 to 6 changes has the length its count gives (R183). -/
theorem changeBytes_counted {changes : List (Byte × Word)} (low : 1 ≤ changes.length) (high : changes.length ≤ 6) (tag : Byte)
    (fleet : Nat) :
    counted 4 3 1 6 (request 0x11 tag (u16 fleet ++ u8 changes.length ++ (changeBytes changes).flatten)) = true := by
  have count : byteAt (request 0x11 tag (u16 fleet ++ u8 changes.length ++ (changeBytes changes).flatten)) 4 =
      changes.length := by
    simp [request, byteAt, u8, u16, Nat.mod_eq_of_lt (show changes.length < 256 by omega)]
  have total : (request 0x11 tag (u16 fleet ++ u8 changes.length ++ (changeBytes changes).flatten)).length =
      5 + 3 * changes.length := by
    have bytes : (changeBytes changes).flatten.length = 3 * changes.length := timingBytes_length changes
    simp only [request, u16, u8, List.length_cons, List.length_append, List.length_nil, bytes]
    omega
  simp only [counted, count, total, Bool.and_eq_true, decide_eq_true_eq, beq_iff_eq, and_true]
  omega

/-- What BUS_SET's action answers for the changes that a body carries (R17). -/
structure SetAnswers (b : List Byte) (fleet : Word) (changes : List (Byte × Word)) (s : State) : Prop where
  badValue : ¬ (fleetValid fleet ∧ (∀ c ∈ changes, changeInRange c) ∧ (changes.map Prod.fst).Nodup) →
    setBusFields b s = (s, .refuse .badValue)
  unknown : fleetValid fleet → (∀ c ∈ changes, changeInRange c) → (changes.map Prod.fst).Nodup →
    s.yard.bus? fleet.toNat = none → setBusFields b s = (s, .refuse .notFound)
  known : fleetValid fleet → (∀ c ∈ changes, changeInRange c) → (changes.map Prod.fst).Nodup →
    ∀ bus, s.yard.bus? fleet.toNat = some bus → setBusFields b s =
      if (changes.map changeFor).any BusChange.ofBuild && !bus.rebuildable then (s, .refuse .wrongState)
      else s.done (s.yard.setBus fleet.toNat (fun bus => (changes.map changeFor).foldl Bus.apply bus))

theorem setBusFields_answers {b : List Byte} {fleet : Word} {changes : List (Byte × Word)} (fleetAt : wordAt b 2 = fleet.toNat)
    (items : listAt 3 4 b = changeBytes changes) (s : State) : SetAnswers b fleet changes s := by
  have repeats : noRepeats ((changeBytes changes).map (fun i => byteAt i 0)) = true ↔ (changes.map Prod.fst).Nodup := by
    rw [noRepeats_iff, changeBytes, List.map_map,
      ← List.nodup_map_iff (f := BitVec.toNat) (fun _ _ => BitVec.eq_of_toNat_eq), List.map_map]
    rfl
  constructor
  all_goals
    unfold setBusFields
    simp only [fleetAt, items]
  case badValue =>
    intro fails
    split
    · rfl
    · next read carried =>
      refine if_pos (Decidable.or_iff_not_not_and_not.2 fun both => fails ?_)
      obtain ⟨inRange, -⟩ := (changesOf_iff _ _).1 carried
      simp only [Bool.not_eq_false] at both
      exact ⟨(fleetOk_iff fleet).1 both.1, inRange, repeats.1 both.2⟩
  all_goals
    intro valid inRange once
    rw [(changesOf_iff changes _).2 ⟨inRange, rfl⟩, (fleetOk_iff fleet).2 valid, repeats.2 once]
  case unknown =>
    intro none
    rw [none]
    rfl
  case known =>
    intro bus found
    rw [found]
    rfl

/-- Settles O24: the changes are read back whole, and different fields are set each by itself. -/
theorem busFieldsSet : Obligations.BusFieldsSet := by
  intro s tag fleet changes body inRange passes named rebuilds low high taken
  have fleetAt : wordAt body 2 = fleet.toNat := word_bytes fleet
  have answers : SetAnswers body fleet changes s :=
    setBusFields_answers fleetAt (changeBytes_request (by omega) tag fleet.toNat) s
  have answered {t : State} {r : Reply} (act : setBusFields body s = (t, r)) :
      exec .busSet s = .next (t.reply body r.result r.data) :=
    exec_acts rfl taken rfl (changeBytes_counted low high tag fleet.toNat) (anyMode_eq _) act
  have built (b : Bus) (ranges : ∀ c ∈ changes, changeInRange c) :
      ((changes.map changeFor).any BusChange.ofBuild && !b.rebuildable) = true ↔
        rebuilds ∧ ¬ (b.position.Free ∧ b.wait.Idle) := by
    rw [Bool.and_eq_true, any_ofBuild_iff changes ranges, Bool.not_eq_true', ← Bool.not_eq_true, Bus.rebuildable_iff]
    rfl
  refine ⟨fun out => answered (answers.badValue out), fun ok unknown => ?_,
    fun b ok known => ⟨fun build fixed => ?_, fun free => ?_⟩⟩
  all_goals obtain ⟨valid, ranges, once⟩ := ok
  · exact answered (answers.unknown valid ranges once unknown)
  · have act := (answers.known valid ranges once b known).trans (if_pos ((built b ranges).2 ⟨build, fixed⟩))
    exact answered act
  · have act := (answers.known valid ranges once b known).trans
      (if_neg (fun h => ((built b ranges).1 h).2 (free ((built b ranges).1 h).1)))
    rw [funext fun bus => Bus.foldl_apply bus ranges once] at act
    exact answered act

/-! ### BUS_QUERY -/

/-- The fields of a bus report (Table 11-7). -/
structure ReportFields where
  fleet : Nat
  fuelKind : Nat
  length : Nat
  routeClass : Nat
  homePlan : Nat
  wanted : Nat
  place : Nat
  wait : Nat
  cursor : Nat
  fault : Nat
  depth : Nat
  newest : Nat
  older : Nat
  repeatCount : Nat
  marker : Nat
  age : Nat
  missedCalls : Nat
  residue : Nat
  fuelTaken : Nat
  slot : Nat
  departure : Nat
  queue : Nat
  time : Nat
  skip : Nat

/-- The fields in their widths (Table 11-7). -/
def ReportFields.bytes (r : ReportFields) : List Byte :=
  u16 r.fleet ++ u8 r.fuelKind ++ u8 r.length ++ u8 r.routeClass ++ u16 r.homePlan ++ u8 r.wanted ++ u8 r.place ++ u8 r.wait ++
    u16 r.cursor ++ u8 r.fault ++ u8 r.depth ++ u16 r.newest ++ u16 r.older ++ u8 r.repeatCount ++ u8 r.marker ++ u8 r.age ++
    u8 r.missedCalls ++ u8 r.residue ++ u16 r.fuelTaken ++ u16 r.slot ++ u8 r.departure ++ u8 r.queue ++ u24 r.time ++ u8 r.skip

theorem ReportFields.bytes_length (r : ReportFields) : r.bytes.length = 33 := by
  unfold ReportFields.bytes
  simp only [List.length_append]
  rfl

/-- What the bus report of a record shows. -/
def Yard.reportFields (y : Yard) (b : Bus) : ReportFields where
  fleet := b.fleet
  fuelKind := b.fuelKind.code
  length := b.length.code
  routeClass := b.routeClass
  homePlan := b.homePlan.getD 65535
  wanted := (if b.fuelWanted then 1 else 0) + (if b.washWanted then 2 else 0)
  place := b.position.code
  wait := b.wait.code
  cursor := b.cursor.getD 65535
  fault := (b.fault.map FaultCause.code).getD 0
  depth := b.stack.length
  newest := b.stack[0]?.getD 65535
  older := b.stack[1]?.getD 65535
  repeatCount := b.repeatCount.getD 0
  marker := (b.shuntMarker.map PlanWait.code).getD 255
  age := b.age
  missedCalls := b.missedCalls
  residue := b.residue
  fuelTaken := b.fuelTaken
  slot := ((y.departure? b.fleet).map Departure.slot).getD 65535
  departure := ((y.departure? b.fleet).map (fun d => d.state.code)).getD 255
  queue := y.turnQueueCode b.fleet
  time := ((y.turn? b.fleet).map PoolEntry.time).getD 0
  skip := ((y.turn? b.fleet).map PoolEntry.skip).getD 0

theorem Yard.busReport_eq (y : Yard) (b : Bus) : y.busReport b = (y.reportFields b).bytes := by
  unfold Yard.busReport ReportFields.bytes Yard.reportFields
  simp only [departureBytes_eq, turnBytes_eq, u16Absent_eq, List.append_assoc]

/-- A fleet number that the map holds is answered with its bus report (R18). -/
theorem queryBus_found {b : List Byte} {s : State} {f : Nat} {bus : Bus} (form : byteAt b 2 = 0) (at_ : wordAt b 3 = f)
    (valid : fleetOk f = true) (found : s.yard.bus? f = some bus) : queryBus b s = (s, .ok (s.yard.busReport bus)) := by
  simp only [queryBus, form, at_, valid, found]
  rfl

/-- The numbers at or above a start that one reply lists, and whether more stand above (R19). -/
theorem Yard.fleetList_eq (y : Yard) (start : Nat) :
    let above := (y.fleet.map Bus.fleet).filter (fun f => start ≤ f)
    let listed := above.take 64
    y.fleetList start =
    u8 y.fleet.length ++ u8 listed.length ++ (listed.map u16).flatten ++ u8 (if listed.length < above.length then 1 else 0) := by
  intro above listed
  have more : decide (64 < above.length) = decide (listed.length < above.length) :=
    decide_eq_decide.2 (by rw [List.length_take]; omega)
  show u8 y.fleet.length ++ listBytes (listed.map u16) ++ uFlag (decide (64 < above.length)) = _
  rw [more, listBytes, uFlag, List.length_map, ← List.append_assoc]
  simp only [decide_eq_true_eq]

/-- Settles O25: the report's codes are places in the spec's tables, and its bytes are counted field by field. -/
theorem fleetQueried : Obligations.FleetQueried := by
  intro s tag fleet y
  have start (form : Byte) : wordAt (request 0x12 tag (form :: u16 fleet.toNat)) 3 = fleet.toNat := word_bytes fleet
  have own (form : Byte) (record : form.toNat ≠ 1) :
      busQueryRecordRequest.takes (request 0x12 tag (form :: u16 fleet.toNat)) = true :=
    ofKindElse_request (k := 0x12) (v := 1) (by decide) record
  refine ⟨?_, ?_, ?_⟩
  · intro body taken
    have answered {r : Reply} (act : queryBus body s = (s, r)) :
        exec .busQueryRecord s = .next (s.reply body r.result r.data) :=
      exec_acts rfl taken (own 0#8 (by decide)) rfl (anyMode_eq _) act
    refine ⟨fun out => answered (r := .refuse .badValue) ?_, fun valid unknown => answered (r := .refuse .notFound) ?_, ?_⟩
    · refine if_pos (.inr ?_)
      rw [start, ← Bool.not_eq_true, fleetOk_iff]
      exact out
    · unfold queryBus
      simp only [body, start, (fleetOk_iff fleet).2 valid]
      rw [unknown]
      rfl
    · intro b valid found address waitCode place fault departure stateCode holds turn report
      let fields : ReportFields :=
        { fleet := fleet.toNat, fuelKind := if b.fuelKind = .diesel then 0 else 1,
          length := if b.length = .standard then 0 else 1, routeClass := b.routeClass, homePlan := b.homePlan.getD 65535,
          wanted := (if b.fuelWanted then 1 else 0) + (if b.washWanted then 2 else 0), place, wait := waitCode b.wait,
          cursor := b.cursor.getD 65535, fault, depth := b.stack.length, newest := b.stack[0]?.getD 65535,
          older := b.stack[1]?.getD 65535, repeatCount := b.repeatCount.getD 0,
          marker := (b.shuntMarker.map waitCode).getD 255, age := b.age, missedCalls := b.missedCalls, residue := b.residue,
          fuelTaken := b.fuelTaken, slot := (departure.map Departure.slot).getD 65535,
          departure := (departure.map stateCode).getD 255,
          queue := if holds y.fuelPriority then 1 else if holds y.fuelOrdinary then 2 else if holds y.washQueue then 3 else 0,
          time := (turn.map PoolEntry.time).getD 0, skip := (turn.map PoolEntry.skip).getD 0 }
      have waits : PlanWait.code = waitCode := funext PlanWait.code_eq
      have states : (fun d : Departure => d.state.code) = stateCode := funext fun d => d.state.code_eq
      have cause : (b.fault.map FaultCause.code).getD 0 = fault := by
        dsimp only [fault]
        cases b.fault with
        | none => rfl
        | some c => exact c.code_eq
      have shown : s.yard.reportFields b = fields := by
        rw [Yard.reportFields, Yard.bus_fleet found, states, waits, cause, FuelKind.code_eq, BusLength.code_eq, Position.code_eq]
        rfl
      have bytes : s.yard.busReport b = report := by
        rw [Yard.busReport_eq, shown]
        rfl
      refine ⟨?_, ?_⟩
      · refine answered (r := .ok report) ?_
        rw [queryBus_found rfl (start 0#8) ((fleetOk_iff fleet).2 valid) found, bytes]
      · exact fields.bytes_length
  · intro body above listed taken
    have answered {r : Reply} (act : listBuses body s = (s, r)) :
        exec .busQueryList s = .next (s.reply body r.result r.data) :=
      exec_acts rfl taken rfl rfl (anyMode_eq _) act
    refine ⟨fun out => answered (r := .refuse .badValue) ?_, fun valid => answered (r := .ok _) ?_⟩
    · refine if_neg ?_
      rw [start, fleetOk_iff]
      exact out
    · refine (if_pos ?_).trans ?_
      · rw [start, fleetOk_iff]
        exact valid
      · rw [start, Yard.fleetList_eq]
        rfl
  · intro form body unknown taken
    have act : queryBus body s = (s, .refuse .badValue) := if_pos (.inl (by
      show form.toNat ≠ 0
      omega))
    exact exec_acts (c := .busQueryRecord) rfl taken (own form (by omega)) rfl (anyMode_eq _) act

/-! ### BUS_WITHDRAW -/

theorem Bus.withdrawable_iff (b : Bus) : b.withdrawable = true ↔ b.position.Free ∧ b.wait ≠ .serving := by
  rw [Bus.withdrawable, Bool.and_eq_true, Position.free_iff, bne_iff_ne]

/-- No point names a bus once it is forgotten (R21 step 5). -/
theorem Yard.named_forgetBus (f : Nat) (y : Yard) : (y.forgetBus f).named f = false := by
  unfold Yard.forgetBus
  split
  · simp only [Yard.named, Yard.raise_points, List.map_map, List.any_map, List.any_eq_false, Function.comp_apply]
    intro q _
    split_ifs <;> simp_all
  · next unnamed => simpa using unnamed

/-- A point that forgets a bus changes no record but its own. -/
theorem Yard.SparesOthers.forgetBus {f : Nat} (y : Yard) : y.SparesOthers f (y.forgetBus f) := by
  unfold Yard.forgetBus
  split <;> exact .same rfl rfl rfl rfl

theorem Yard.forgetBus_lanes (f : Nat) (y : Yard) : (y.forgetBus f).lanes = y.lanes := by
  unfold Yard.forgetBus
  split <;> rfl

theorem Yard.forgetBus_waits (f : Nat) (y : Yard) : (y.forgetBus f).waits = y.waits := by
  unfold Yard.forgetBus
  split <;> rfl

theorem Yard.forgetBus_pool (f : Nat) (y : Yard) : (y.forgetBus f).pool = y.pool := by
  unfold Yard.forgetBus
  split <;> rfl

/-- The claims of a bus given back, its record and its departure entry still there (R21). -/
def Yard.claimsGivenBack (e : Env) (b : Bus) (y : Yard) : Yard :=
  (((y.dropTurn b).leaveWaits b.fleet).dropFromLanes e b.fleet).forgetBus b.fleet

/-- A teardown is the claims given back, then the entry and the record taken out. -/
theorem Yard.tearDown_eq (e : Env) (b : Bus) (y : Yard) : y.tearDown e b =
    { (y.claimsGivenBack e b).dropDeparture b.fleet with
      fleet := (y.claimsGivenBack e b).fleet.filter (fun c => c.fleet != b.fleet) } := rfl

/-- Giving back the claims of a bus spares the others. -/
theorem Yard.SparesOthers.claimsGivenBack (e : Env) (b : Bus) (y : Yard) : y.SparesOthers b.fleet (y.claimsGivenBack e b) := by
  have left : (y.dropTurn b).SparesOthers b.fleet ((y.dropTurn b).leaveWaits b.fleet) := .same rfl rfl rfl rfl
  exact (((dropTurn b y).trans left).trans (dropFromLanes e _)).trans (forgetBus _)

theorem Yard.claimsGivenBack_turn (e : Env) (b : Bus) (y : Yard) : (y.claimsGivenBack e b).turn? b.fleet = none := by
  have pool : (y.claimsGivenBack e b).pool = (y.dropTurn b).pool := by
    unfold Yard.claimsGivenBack
    rw [Yard.forgetBus_pool, Yard.dropFromLanes_pool]
    rfl
  unfold Yard.turn?
  rw [pool]
  exact (Yard.turn_freeTurn _ b.fleet b.fleet).trans (if_pos rfl)

/-- No lane and no berth wait has the bus once its claims are given back. -/
theorem Yard.claimsGivenBack_clear (e : Env) (b : Bus) (y : Yard) :
    (y.claimsGivenBack e b).LanesClearOf b.fleet ∧ ∀ w ∈ (y.claimsGivenBack e b).waits, w.bus ≠ b.fleet := by
  have left : ∀ w ∈ ((y.dropTurn b).leaveWaits b.fleet).waits, w.bus ≠ b.fleet := by
    simp only [Yard.leaveWaits_waits, List.mem_filter, bne_iff_ne]
    exact fun w hw => hw.2
  have clear := Yard.dropFromLanes_clear e left
  unfold Yard.claimsGivenBack
  rw [Yard.LanesClearOf, Yard.forgetBus_lanes, Yard.forgetBus_waits]
  exact clear

/-- A lookup of another key after the records of a key are taken out. -/
theorem find?_filter_other {α : Type} (key : α → Nat) {f g : Nat} (h : g ≠ f) (l : List α) :
    (l.filter (fun x => key x != f)).find? (fun x => key x == g) = l.find? (fun x => key x == g) := by
  rw [List.find?_filter]
  congr 1
  funext x
  by_cases hx : key x = g <;> simp [hx, h]

/-- No record of a key once those are taken out. -/
theorem find?_filter_self {α : Type} (key : α → Nat) (f : Nat) (l : List α) :
    (l.filter (fun x => key x != f)).find? (fun x => key x == f) = none := by
  rw [List.find?_filter]
  exact List.find?_eq_none.2 (by simp)

/-- Settles O26: the claims given back leave nothing of the bus and spare the others; then its entry and its record go. -/
theorem busWithdrawn : Obligations.BusWithdrawn := by
  intro s tag fleet body f taken
  have fleetAt : wordAt body 2 = f := word_bytes fleet
  have answered {t : State} {r : Reply} (act : withdrawBus body s = (t, r)) :
      exec .busWithdraw s = .next (t.reply body r.result r.data) := exec_acts rfl taken rfl rfl (anyMode_eq _) act
  refine ⟨fun out => answered (r := .refuse .badValue) ?_, fun valid unknown => answered (r := .refuse .notFound) ?_,
    fun b valid known => ⟨fun held => answered (r := .refuse .wrongState) ?_, fun free unserved => ?_⟩⟩
  · refine if_pos ?_
    rw [fleetAt, ← Bool.not_eq_true, fleetOk_iff]
    exact out
  · simp only [withdrawBus, fleetAt, (fleetOk_iff fleet).2 valid, f, unknown]
    rfl
  · have fixed : b.withdrawable = false := by
      rw [← Bool.not_eq_true, Bus.withdrawable_iff, not_and_or, not_not]
      exact held
    simp only [withdrawBus, fleetAt, (fleetOk_iff fleet).2 valid, f, known, fixed]
    rfl
  · have act : withdrawBus body s = s.done (s.yard.tearDown s.env b) := by
      simp only [withdrawBus, fleetAt, (fleetOk_iff fleet).2 valid, f, known, (Bus.withdrawable_iff b).2 ⟨free, unserved⟩]
      rfl
    have here : b.fleet = f := Yard.bus_fleet known
    obtain ⟨lanes, waits⟩ := Yard.claimsGivenBack_clear s.env b s.yard
    have spared := Yard.SparesOthers.claimsGivenBack s.env b s.yard
    have turn := Yard.claimsGivenBack_turn s.env b s.yard
    have unnamed : (s.yard.claimsGivenBack s.env b).named b.fleet = false := Yard.named_forgetBus _ _
    refine ⟨s.yard.tearDown s.env b, answered act, ?_⟩
    rw [Yard.tearDown_eq]
    rw [here] at lanes waits spared turn unnamed ⊢
    generalize s.yard.claimsGivenBack s.env b = z at *
    have others (g : Nat) (other : g ≠ f) :
        ({ z.dropDeparture f with fleet := z.fleet.filter (fun c => c.fleet != f) } : Yard).bus? g = z.bus? g :=
      find?_filter_other Bus.fleet other z.fleet
    refine ⟨find?_filter_self Bus.fleet _ _, find?_filter_self Departure.bus _ _, unnamed, turn, waits, lanes.reservation,
      fun l hl => (lanes l hl).2, fun g other => ?_, fun g c other found => ?_, fun g other => ⟨?_, spared.turn g other⟩,
      fun k hk => spared.tally k ?_⟩
    · rw [others g other]
      exact spared.bus g other
    · rw [others g other]
      exact spared.wait g c found
    · exact (find?_filter_other Departure.bus other z.departures).trans (spared.departure g)
    · rintro rfl
      exact absurd hk (by decide)

end Sys2Proof.Machine
end

section
/-!
PROOFS. Stations, reports and positions (O54): the health of a station and what its owner does, the routing of a report, positions set
and corrected, and the gate.
-/
namespace Sys2Proof.Machine

section

variable {e : Env} {y : Yard}

/-! ### The health of a station -/

theorem Yard.station_address {a : Nat} {t : Station} (h : y.station? a = some t) : t.address = a := by
  simpa using List.find?_some h

/-- A failure that leaves the station as it is but for the count (R152). -/
theorem Yard.stationFailure_counted {a : Nat} {t : Station} (found : y.station? a = some t)
    (few : min 3 (t.failures + 1) < 3 ∨ t.state = .lost) :
    y.stationFailure e a = y.setStation a (fun t' => { t' with failures := min 3 (t.failures + 1) }) := by
  have stays : ¬ (satAdd 3 t.failures 1 = 3 ∧ t.state ≠ .lost) := by
    rintro ⟨third, notLost⟩
    exact few.elim (fun less => Nat.ne_of_lt less third) notLost
  simp only [Yard.stationFailure, found, if_neg stays]
  rfl

/-- The third failure of a station that is not LOST (R152). -/
theorem Yard.stationFailure_lost {a : Nat} {t : Station} (found : y.station? a = some t) (third : min 3 (t.failures + 1) = 3)
    (notLost : t.state ≠ .lost) :
    y.stationFailure e a =
      ((y.setStation a (fun t => { t with failures := 3, state := .lost })).post e .stationLost 0 t.served t.kind.code
        a).ownerLost e t.served := by
  have count : satAdd 3 t.failures 1 = 3 := third
  simp only [Yard.stationFailure, found, count]
  exact if_pos ⟨trivial, notLost⟩

/-! ### The routing of a report -/

theorem ReportKind.needsFleet_iff (k : ReportKind) :
    k.needsFleet = true ↔ k ∈ [.arrived, .left, .atPoint, .entered, .exited, .tagSeen] := by
  cases k <;> decide

theorem ReportKind.atGate_iff (k : ReportKind) : k.atGate = false ↔ k ≠ .arrived ∧ k ≠ .left := by
  cases k <;> decide

/-- A report with a new turn bit that its station may carry goes, its bus resolved, to the owner (R150 steps 3 to 5). -/
theorem Yard.routeReport_taken {a : Nat} {t : Station} {r : Report} (found : y.station? a = some t)
    (new : t.turnBit ≠ some r.turn) (carries : ¬ (t.kind = .gate ∧ r.kind ≠ .arrived ∧ r.kind ≠ .left)) :
    y.routeReport e a r =
      ((y.setStation a (fun t => { t with turnBit := some r.turn })).resolve e t r).ownerReport e t.served r := by
  rw [← ReportKind.atGate_iff] at carries
  simp only [Yard.routeReport, found, if_neg new, if_neg carries]

/-- A report whose bus the map holds reloads its sighting age (R27). -/
theorem Yard.resolve_known {t : Station} {r : Report} (known : (y.bus? r.fleet).isSome) :
    y.resolve e t r = y.setBus r.fleet (fun b => { b with age := e.params.sightingReload }) := if_pos known

/-- A report that needs no bus and names none (R22). -/
theorem Yard.resolve_absent {t : Station} {r : Report} (unknown : ¬ (y.bus? r.fleet).isSome) (absent : r.fleet = 0)
    (free : r.kind ∉ [.arrived, .left, .atPoint, .entered, .exited, .tagSeen]) : y.resolve e t r = y := by
  rw [← ReportKind.needsFleet_iff] at free
  exact (if_neg unknown).trans (if_neg (not_or.2 ⟨not_not.2 absent, free⟩))

/-- A report whose bus is not in the map (R22). -/
theorem Yard.resolve_unknown {t : Station} {r : Report} (unknown : ¬ (y.bus? r.fleet).isSome)
    (named : r.fleet ≠ 0 ∨ r.kind ∈ [.arrived, .left, .atPoint, .entered, .exited, .tagSeen]) :
    y.resolve e t r = y.post e .unknownBus r.fleet t.served r.kind.code t.address := by
  rw [← ReportKind.needsFleet_iff] at named
  exact (if_neg unknown).trans (if_pos named)

/-! ### A point whose station is lost or alive -/

/-- A point out of service is not touched by the loss of its station (R76, R94). -/
theorem Yard.pointStationLost_out {p : PointId} {q : Point} (found : y.point? p = some q)
    (out : q.state = .closed ∨ q.state = .down) :
    y.pointStationLost e p = y := by
  simp only [Yard.pointStationLost, found]
  rcases out with out | out <;> simp only [out]

/-- A point in service goes DOWN, its call or service undone (R76, R94). -/
theorem Yard.pointStationLost_down {p : PointId} {q : Point} (found : y.point? p = some q)
    (service : ¬ (q.state = .closed ∨ q.state = .down)) : y.pointStationLost e p = (y.undoTurn e p).downPoint e p .station := by
  simp only [Yard.pointStationLost, found]
  cases state : q.state
  case closed => exact absurd (.inl state) service
  case down => exact absurd (.inr state) service
  all_goals rfl

/-- A point with no turn to undo stops its call timer (R72, R94). -/
theorem Yard.undoTurn_none {p : PointId} {q : Point} (found : y.point? p = some q)
    (idle : ∀ f, q.bus = some f → y.turn? f = none) :
    y.undoTurn e p = y.setPoint p (fun q => { q with callTimer := none }) := by
  simp only [Yard.undoTurn, found]
  cases bus : q.bus with
  | none => rfl
  | some f => simp only [Yard.turn_setPoint, idle f bus]

/-- A point DOWN for its station that is to be closed is closed when the station is alive (R76, R94). -/
theorem Yard.pointStationAlive_closes {p : PointId} {q : Point} (found : y.point? p = some q)
    (ours : q.state = .down ∧ q.downCause = some .station) (close : q.closePending = true) :
    y.pointStationAlive e p =
      if q.bus.isSome then (y.setPoint p Point.closedByHost).raise else y.setPoint p Point.closedByHost := by
  simp only [Yard.pointStationAlive, found, if_pos ours, if_pos close]
  exact Yard.vacatePoint_eq found _

/-! ### Positions -/

/-- The lane map's part of a correction out of a position: nothing but out of a lane (R25, R110; the re-run is log 14). -/
def Yard.correctedOut (e : Env) (rerun : Bool) (f : Nat) (old : Position) (y : Yard) : Yard :=
  match old with
  | .inLane m => if rerun then (y.leaveLane e f m).rerunWaits e else y.leaveLane e f m
  | .outside | .loose | .atPoint _ => y

/-- A correction (Table 2-4): the lane map told of an exit, the position set, POSITION_CORRECTED. -/
theorem Yard.reportPosition_corrects {f : Nat} {b : Bus} {pos : Position} (rerun : Bool) (found : y.bus? f = some b)
    (stands : b.position ≠ pos ∧ b.position ≠ .loose ∧ (b.position = .outside → pos ≠ .loose)) :
    y.reportPosition e rerun f pos =
      ((y.correctedOut e rerun f b.position).place f pos).post e .positionCorrected f pos.place pos.code b.position.code := by
  simp only [Yard.reportPosition, found, if_pos ((corrects_iff _ _).2 stands)]
  cases b.position <;> rfl

/-- A position that stands in the way of none is set (Table 2-4). -/
theorem Yard.reportPosition_sets {f : Nat} {b : Bus} {pos : Position} (rerun : Bool) (found : y.bus? f = some b)
    (agrees : ¬ (b.position ≠ pos ∧ b.position ≠ .loose ∧ (b.position = .outside → pos ≠ .loose))) :
    y.reportPosition e rerun f pos = y.place f pos := by
  rw [← corrects_iff] at agrees
  simp only [Yard.reportPosition, found, if_neg agrees]

/-- "Cleared point p" of a bus that stands there leaves it LOOSE (Table 2-4). -/
theorem Yard.reportCleared_here {f : Nat} {b : Bus} {p : PointId} (found : y.bus? f = some b) (here : b.position = .atPoint p) :
    let loose := y.setBus f (fun b => { b with position := .loose })
    y.reportCleared p f = if b.wait = .turn then loose.raise else loose := by
  intro loose
  simp only [Yard.reportCleared, found, if_pos here]
  exact (Yard.place_eq found .loose).trans (if_congr (by simp [here]) rfl rfl)

/-! ### The gate -/

/-- A report of the gate is acted on for a known bus alone (R22). -/
theorem Yard.gateReport_unknown {r : Report} (unknown : y.bus? r.fleet = none) : y.gateReport e r = y := by
  simp only [Yard.gateReport, Yard.known?, unknown, Option.map_none]

theorem Yard.known_of_bus {r : Report} {b : Bus} (found : y.bus? r.fleet = some b) : y.known? r = some r.fleet := by
  rw [Yard.known?, found]
  exact congrArg some (Yard.bus_fleet found)

theorem Yard.handLeft_none {f : Nat} (absent : y.departure? f = none) : y.handLeft e f = y := by
  simp only [Yard.handLeft, absent]

/-- A gate ARRIVED of a bus whose plan may start: its home plan, or NO_PLAN (R23). -/
theorem Yard.gateArrived_starts {f : Nat} {b : Bus} (found : y.bus? f = some b) (idle : b.wait.Idle) :
    let arrived := (y.reportPosition e true f .loose).post e .busArrived f none b.position.code 0
    (b.homePlan = none → y.gateArrived e f = arrived.post e .noPlan f none 0 0) ∧
      ∀ a, b.homePlan = some a → y.gateArrived e f = arrived.planStart e f a := by
  intro arrived
  simp only [Yard.gateArrived, found, if_pos ((PlanWait.startable_iff _).2 idle)]
  exact ⟨fun home => by rw [home], fun a home => by rw [home]⟩

/-- A gate ARRIVED of a bus in the middle of a plan (R23). -/
theorem Yard.gateArrived_goesOn {f : Nat} {b : Bus} (found : y.bus? f = some b) (busy : ¬ b.wait.Idle) :
    y.gateArrived e f = (y.reportPosition e true f .loose).post e .busArrived f none b.position.code 0 := by
  rw [← PlanWait.startable_iff] at busy
  simp only [Yard.gateArrived, found, if_neg busy]

/-- A departure entry left at the gate, by its state (R138; a RELEASED one stays, log 24). -/
theorem Yard.handLeft_eq {f : Nat} {d : Departure} (found : y.departure? f = some d) : y.handLeft e f =
    if d.state = .released then y
    else if d.state = .outbound then ((y.dropDeparture f).post e .departed f none 0 d.slot).keyChanged e f
    else ((y.dropDeparture f).post e .unscheduledExit f none d.state.code d.slot).keyChanged e f := by
  simp only [Yard.handLeft, found]
  cases d.state <;> rfl

/-- A report at the gate that is neither ARRIVED nor LEFT (R22). -/
theorem Yard.gateReport_other {r : Report} (arrived : r.kind ≠ .arrived) (left : r.kind ≠ .left) : y.gateReport e r = y := by
  unfold Yard.gateReport
  split
  · rfl
  · cases kind : r.kind
    case arrived => exact absurd kind arrived
    case left => exact absurd kind left
    all_goals rfl

theorem Yard.gateReport_arrived {r : Report} {b : Bus} (found : y.bus? r.fleet = some b) (kind : r.kind = .arrived) :
    y.gateReport e r = y.gateArrived e r.fleet := by
  simp only [Yard.gateReport, Yard.known_of_bus found, kind]

theorem Yard.gateReport_left {r : Report} {b : Bus} (found : y.bus? r.fleet = some b) (kind : r.kind = .left) :
    y.gateReport e r = (y.reportPosition e true r.fleet .outside).handLeft e r.fleet := by
  simp only [Yard.gateReport, Yard.known_of_bus found, kind]
  rfl

end

/-- Settles O54: stations, the routing, lanes, points, positions with the gate, and a bus the gate does not know, in the statement's
order; each part is read off the rule about its operation. -/
theorem stationHealthAndReports : Obligations.StationHealthAndReports := by
  refine ⟨?_, ?_, ?_, ?_, ?_, ?_⟩
  · intro e y a t found owner count heard told
    have alive (z : Yard) : z.ownerAlive e t.served = told z := by
      dsimp only [told, owner]
      rcases t.served with _ | _ | _ <;> rfl
    refine ⟨Yard.stationFailure_counted found, fun third notLost => ?_, fun state => ?_, fun state => ?_, fun state => ?_⟩
    · refine (Yard.stationFailure_lost found third notLost).trans ?_
      dsimp only [owner]
      rcases t.served with _ | _ | _ <;> rfl
    · simp only [Yard.stationValid, found, state]
      rfl
    · simp only [Yard.stationValid, found, state]
      exact alive _
    · simp only [Yard.stationValid, found, state]
      exact alive _
  · intro e y a r
    refine ⟨fun unknown => by simp only [Yard.routeReport, unknown], ?_⟩
    intro t found y1 known needsBus notAtGate
    refine ⟨fun old => by simp only [Yard.routeReport, found, if_pos old], fun new gate => ?_, fun new carries => ?_⟩
    · simp only [Yard.routeReport, found, if_neg new, ReportKind.atGate_iff]
      exact if_pos gate
    · rw [Yard.routeReport_taken found new carries]
      refine ⟨fun there => ?_, fun away absent free => ?_, fun away named => ?_⟩
      · exact congrArg (Yard.ownerReport e t.served r) (Yard.resolve_known (y := y1) there)
      · exact congrArg (Yard.ownerReport e t.served r) (Yard.resolve_absent (y := y1) away absent free)
      · have posted := Yard.resolve_unknown (e := e) (y := y1) (t := t) away named
        rw [Yard.station_address found] at posted
        exact congrArg (Yard.ownerReport e t.served r) posted
  · intro e y n l found
    refine ⟨rfl, fun dark => ?_, fun lit => ?_⟩
    · simp only [Yard.laneAlive, found, if_pos dark]
    · simp only [Yard.laneAlive, found, lit]
      rfl
  · intro e y p q found stopped out ours shut
    refine ⟨Yard.pointStationLost_out found, Yard.pointStationLost_down found, fun unnamed => ?_,
      fun f named => ⟨fun idle => ?_, ?_⟩, fun other => ?_, Yard.pointStationAlive_closes found, fun down stay => ?_⟩
    · exact Yard.undoTurn_none found (by simp [unnamed])
    · exact Yard.undoTurn_none found (by simpa [named] using idle)
    · intro t turn
      rw [Yard.undoTurn_eq found named turn]
      refine ⟨fun called => if_pos called, fun serving => ?_,
        fun uncalled unserved => (if_neg uncalled).trans (if_neg unserved)⟩
      exact (if_neg (by simp [serving])).trans (if_pos serving)
    · simp only [Yard.pointStationAlive, found]
      exact if_neg other
    · simp only [Yard.pointStationAlive, found]
      refine (if_pos down).trans ?_
      rw [stay]
      rfl
  · intro e y f b found code loose
    have coded : Position.code = code := funext Position.code_eq
    refine ⟨?_, fun p => ⟨fun elsewhere => ?_, Yard.reportCleared_here found⟩, ?_⟩
    · intro pos rerun placed stands place gone
      refine ⟨fun agrees => Yard.reportPosition_sets rerun found agrees, fun corrected => ?_⟩
      have lane : y.correctedOut e rerun f b.position = gone := by
        dsimp only [gone]
        cases b.position <;> rfl
      have at_ : pos.place = place := by
        dsimp only [place]
        cases pos <;> rfl
      rw [Yard.reportPosition_corrects rerun found corrected, lane, at_, coded]
      rfl
    · simp only [Yard.reportCleared, found]
      exact if_neg elsewhere
    · rintro r rfl arrived left removed
      refine ⟨Yard.gateReport_other, fun kind => ?_, fun kind => ?_⟩
      · have handed : y.ownerReport e none r = y.gateArrived e r.fleet := Yard.gateReport_arrived found kind
        have news : (y.reportPosition e true r.fleet .loose).post e .busArrived r.fleet none b.position.code 0 = arrived := by
          rw [coded]
        rw [handed]
        refine ⟨fun busy => (Yard.gateArrived_goesOn found busy).trans news, fun idle home => ?_, fun a idle home => ?_⟩
        all_goals
          obtain ⟨homeless, starts⟩ := Yard.gateArrived_starts (e := e) found idle
          rw [news] at homeless starts
        · exact homeless home
        · exact starts a home
      · have handed : y.ownerReport e none r = left.handLeft e r.fleet := Yard.gateReport_left found kind
        rw [handed]
        refine ⟨Yard.handLeft_none, fun d entry => ?_⟩
        rw [Yard.handLeft_eq entry]
        refine ⟨fun state => ?_, fun state => ?_, fun away stays => ?_⟩
        · rw [state]
          rfl
        · exact if_pos state
        · exact (if_neg stays).trans (if_neg away)
  · exact fun e y r unknown => Yard.gateReport_unknown unknown
end Sys2Proof.Machine
end

section
/-!
PROOFS. The plan store (O27 to O29): step records and what they spell, records written to consecutive slots, slots read back.
-/
namespace Sys2Proof.Machine

/-! ### Step records (Table 11-11) -/

/-- What the bytes of a step record spell: kind, argument, target and minute, each within its width. -/
theorem stepRecord_fields (kind a target minute : Nat)
    (widths : kind < 256 ∧ a < 256 ∧ target < 65536 ∧ minute < 65536) :
    byteAt (stepRecord kind a target minute) 0 = kind ∧ byteAt (stepRecord kind a target minute) 1 = a ∧
      wordAt (stepRecord kind a target minute) 2 = target ∧ wordAt (stepRecord kind a target minute) 4 = minute := by
  refine ⟨?_, ?_, ?_, ?_⟩ <;> simp [stepRecord, u8, u16, byteAt, wordAt] <;> omega

/-- A condition's code and minute are those of Table 3-3. -/
theorem testCondOf_bytes {cond : TestCond} (h : ∀ m, cond = .slotBefore m → m ≤ 1439) :
    testCondOf cond.bytes.1 cond.bytes.2 = some cond := by
  cases cond
  case slotBefore m => simp [testCondOf, TestCond.bytes, h m rfl]
  all_goals rfl

/-- A TEST in range: its target is an address of the store, its minute a slot minute. -/
theorem Step.test_inRange {cond : TestCond} {a : Nat} (h : (Step.test cond a).InRange) :
    a ≤ 511 ∧ ∀ m, cond = .slotBefore m → m ≤ 1439 := by
  cases cond
  case slotBefore m => exact ⟨h.2, fun k hk => by cases hk; exact h.1⟩
  all_goals exact ⟨h, fun m hm => by cases hm⟩

theorem TestCond.bytes_bounds {cond : TestCond} (h : ∀ m, cond = .slotBefore m → m ≤ 1439) :
    cond.bytes.1 < 256 ∧ cond.bytes.2 < 65536 := by
  cases cond
  case slotBefore m =>
    have := h m rfl
    simp only [TestCond.bytes]
    omega
  all_goals decide

/-- A step of Table 3-1 is read back from its record (R34, R36). -/
theorem stepOf_slotBytes {st : Step} (h : st.InRange) : stepOf (slotBytes (some st)) = some (some st) := by
  cases st
  case fuel | ret => rfl
  case finish notify => cases notify <;> rfl
  case wash program =>
    have range : 1 ≤ program ∧ program ≤ 4 := h
    obtain ⟨kind, arg, -, -⟩ := stepRecord_fields 2 program 0 0 (by omega)
    simp only [stepOf, slotBytes, kind, arg, if_pos range]
  case park lane =>
    cases lane with
    | none => rfl
    | some n =>
      have range : 1 ≤ n ∧ n ≤ 24 := h
      obtain ⟨kind, arg, -, -⟩ := stepRecord_fields 3 n 0 0 (by omega)
      simp only [stepOf, slotBytes, Option.getD_some, kind, arg]
      rw [if_neg (by omega), if_pos range.2]
  case hold m =>
    have range : 1 ≤ m ∧ m ≤ 120 := h
    obtain ⟨kind, arg, -, -⟩ := stepRecord_fields 4 m 0 0 (by omega)
    simp only [stepOf, slotBytes, kind, arg, if_pos range]
  case rep c =>
    have range : c ≤ 15 := h
    obtain ⟨kind, arg, -, -⟩ := stepRecord_fields 5 c 0 0 (by omega)
    simp only [stepOf, slotBytes, kind, arg, if_pos range]
  case test cond target =>
    obtain ⟨range, minute⟩ := Step.test_inRange h
    obtain ⟨code, width⟩ := TestCond.bytes_bounds minute
    obtain ⟨kind, arg, at_, min⟩ := stepRecord_fields 6 cond.bytes.1 target cond.bytes.2 (by omega)
    simp only [stepOf, slotBytes, kind, arg, at_, min, testCondOf_bytes minute]
    exact if_pos (Nat.lt_succ_of_le range)
  case jump target =>
    have range : target ≤ 511 := h
    obtain ⟨kind, -, at_, -⟩ := stepRecord_fields 7 0 target 0 (by omega)
    simp only [stepOf, slotBytes, kind, at_]
    exact if_pos (Nat.lt_succ_of_le range)
  case call target =>
    have range : target ≤ 511 := h
    obtain ⟨kind, -, at_, -⟩ := stepRecord_fields 8 0 target 0 (by omega)
    simp only [stepOf, slotBytes, kind, at_]
    exact if_pos (Nat.lt_succ_of_le range)
  case note code =>
    have range : code ≤ 255 := h
    obtain ⟨kind, arg, -, -⟩ := stepRecord_fields 10 code 0 0 (by omega)
    simp only [stepOf, slotBytes, kind, arg]

theorem slotBytes_length (content : Option Step) : (slotBytes content).length = 6 := by
  unfold slotBytes
  split <;> rfl

/-- Settles O27: a record is read back kind by kind, and its bytes are those of its fields. -/
theorem stepRecordsRoundTrip : Obligations.StepRecordsRoundTrip := by
  refine ⟨fun content inRange => ⟨?_, slotBytes_length content⟩, rfl, rfl, fun _ => rfl, rfl, fun _ => rfl, fun _ => rfl,
    fun _ => rfl, fun _ => rfl, fun _ => rfl, fun _ => rfl, fun _ => rfl, fun _ _ => rfl, fun _ => rfl, fun _ => rfl,
    fun _ => rfl, rfl, fun _ => rfl, rfl, rfl⟩
  cases content with
  | none => rfl
  | some st => exact stepOf_slotBytes (inRange st rfl)

/-! ### PLAN_WRITE -/

/-- The conditions that a TEST record does not spell (Table 3-3, R34). -/
theorem testCondOf_none (code minute : Nat) : testCondOf code minute = none ↔
    code < 1 ∨ 6 < code ∨ (code ≠ 5 ∧ minute ≠ 0) ∨ 1439 < minute := by
  unfold testCondOf
  split_ifs <;> simp only [true_iff, false_iff] <;> omega

/-- The records of Table 11-11 that are refused, by their fields (R34). -/
theorem stepOf_none {r : List Byte} {kind a target minute : Nat} (hk : byteAt r 0 = kind) (ha : byteAt r 1 = a)
    (ht : wordAt r 2 = target) (hm : wordAt r 4 = minute) : stepOf r = none ↔
      11 < kind ∨
      (kind = 2 ∧ (a < 1 ∨ 4 < a)) ∨
      (kind = 3 ∧ 24 < a) ∨
      (kind = 4 ∧ (a < 1 ∨ 120 < a)) ∨
      (kind = 5 ∧ 15 < a) ∨
      (kind = 6 ∧ (a < 1 ∨ 6 < a ∨ 511 < target ∨ (a ≠ 5 ∧ minute ≠ 0) ∨ 1439 < minute)) ∨
      ((kind = 7 ∨ kind = 8) ∧ 511 < target) ∨
      (kind = 11 ∧ 1 < a) := by
  have condition := testCondOf_none a minute
  unfold stepOf
  simp only [hk, ha, ht, hm, Config.planSlots]
  split
  case h_1 | h_2 | h_10 | h_11 => simp
  case h_7 =>
    cases spelt : testCondOf a minute with
    | none =>
      have unknown := condition.1 spelt
      simp only [true_iff, true_and]
      omega
    | some cond =>
      have known := mt condition.2 (by simp [spelt])
      simp only [ite_eq_right_iff, reduceCtorEq, imp_false, true_and]
      omega
  case h_13 =>
    simp only [imp_false] at *
    exact iff_of_true trivial (.inl (by omega))
  all_goals
    split_ifs <;> simp only [true_iff, false_iff, true_and, true_or, or_true] <;> omega

/-- The records of a list are read all or none, each as by itself. -/
theorem stepsOf_iff : ∀ (records : List (List Byte)) (read : List (Option Step)),
    stepsOf records = some read ↔ (∀ r ∈ records, (stepOf r).isSome) ∧ read = records.map (fun r => (stepOf r).join)
  | [], read => ⟨fun h => ⟨by simp, (Option.some.inj h).symm⟩, fun h => congrArg some h.2.symm⟩
  | r :: rest, read => by
    have ih := stepsOf_iff rest
    rw [stepsOf]
    cases one : stepOf r with
    | none => simp [one]
    | some s =>
      cases others : stepsOf rest with
      | none =>
        have fails : ¬ ∀ r ∈ rest, (stepOf r).isSome := fun ok => by simpa [others] using (ih _).2 ⟨ok, rfl⟩
        simp only [List.forall_mem_cons, reduceCtorEq, false_iff]
        exact fun h => fails h.1.2
      | some ss =>
        obtain ⟨ok, rfl⟩ := (ih ss).1 others
        simp only [List.forall_mem_cons, one, List.map_cons, Option.some.injEq, eq_comm (a := read)]
        exact ⟨fun h => ⟨⟨rfl, ok⟩, h⟩, fun h => h.2⟩

/-- A PLAN_WRITE body of records of six bytes. -/
def planBody (tag : Byte) (start : Nat) (records : List (List Byte)) : List Byte :=
  request 0x18 tag (u16 start ++ u8 records.length ++ records.flatten)

section
variable {records : List (List Byte)} (low : 1 ≤ records.length) (high : records.length ≤ 16)
  (sizes : ∀ r ∈ records, r.length = 6) (tag : Byte) (start : Nat)
include high

theorem planBody_count : byteAt (planBody tag start records) 4 = records.length := by
  simp [planBody, request, byteAt, u8, u16, Nat.mod_eq_of_lt (show records.length < 256 by omega)]

include sizes

/-- The records that a PLAN_WRITE body carries. -/
theorem planBody_records : listAt 6 4 (planBody tag start records) = records := by
  rw [listAt, planBody_count high]
  exact itemsAt_flatten sizes rfl

include low

/-- A PLAN_WRITE body of 1 to 16 records has the length its count gives (R183). -/
theorem planBody_counted : counted 4 6 1 16 (planBody tag start records) = true := by
  have bytes : records.flatten.length = records.length * 6 := by
    rw [List.length_flatten, List.map_congr_left sizes, List.map_const', List.sum_replicate, smul_eq_mul]
  have total : (planBody tag start records).length = 5 + 6 * records.length := by
    simp only [planBody, request, u16, u8, List.length_cons, List.length_append, List.length_nil, bytes]
    omega
  simp only [counted, planBody_count high, total, Bool.and_eq_true, decide_eq_true_eq, beq_iff_eq, and_true]
  omega

end

/-- Settles O28: the records are read all or none, and written to consecutive slots of a store that reads as a memory. -/
theorem planWritten : Obligations.PlanWritten := by
  refine ⟨fun kind argument target minute => stepOf_none rfl rfl (word_bytes target) (word_bytes minute), ?_⟩
  intro s tag start records body passes low high sizes canonical taken
  have startAt : wordAt body 2 = start.toNat := word_bytes start
  have carried : listAt 6 4 body = records := planBody_records high sizes tag start.toNat
  have answered {t : State} {r : Reply} (act : writePlan body s = (t, r)) :
      exec .planWrite s = .next (t.reply body r.result r.data) :=
    exec_acts rfl taken rfl (planBody_counted low high sizes tag start.toNat) (anyMode_eq _) act
  have read := stepsOf_iff records
  refine ⟨fun fails => answered (r := .refuse .badValue) ?_, fun ok => ?_⟩
  · simp only [writePlan, carried, startAt]
    split
    · rfl
    · next contents written =>
      obtain ⟨valid, rfl⟩ := (read contents).1 written
      refine if_neg fun fits => fails ⟨?_, valid⟩
      simpa [Config.planSlots] using fits.1
  · obtain ⟨fits, valid⟩ := ok
    let contents := records.map (fun r => (stepOf r).join)
    have size : contents.length = records.length := List.length_map _
    have room : start.toNat + contents.length ≤ Config.planSlots := by rw [size]; exact fits
    refine ⟨s.env.plan.writeAll start.toNat contents, answered (r := .ok []) ?_, PlanStore.wf_writeAll room canonical,
      fun a => ?_⟩
    · simp only [writePlan, carried, startAt, (read contents).2 ⟨valid, rfl⟩]
      refine if_pos ⟨room, ?_⟩
      simp only [Config.planSlots]
      omega
    · rw [PlanStore.read_writeAll room canonical, size]
      refine if_congr Iff.rfl ?_ rfl
      have empty : (stepOf []).join = none := rfl
      rw [← empty, List.getD_map]

/-! ### PLAN_READ -/

/-- Settles O29. -/
theorem planRead : Obligations.PlanRead := by
  intro s tag count start body inRange taken
  have startAt : wordAt body 2 = start.toNat := word_bytes start
  have countAt : byteAt body 4 = count.toNat := rfl
  have answered {r : Reply} (act : readPlan body s = (s, r)) :
      exec .planRead s = .next (s.reply body r.result r.data) := exec_acts rfl taken rfl rfl (anyMode_eq _) act
  have test : start.toNat < Config.planSlots ∧ 1 ≤ count.toNat ∧ count.toNat ≤ 16 ∧
      start.toNat + count.toNat ≤ Config.planSlots ↔ inRange := by
    simp only [Config.planSlots, inRange]
    omega
  refine ⟨fun out => answered (r := .refuse .badValue) ?_, fun ok => answered (r := .ok _) ?_⟩
  · simp only [readPlan, startAt, countAt]
    exact if_neg (fun h => out (test.1 h))
  · simp only [readPlan, startAt, countAt]
    refine (if_pos (test.2 ok)).trans ?_
    simp [PlanStore.listed, listBytes, u8, replyOnly]

end Sys2Proof.Machine
end

section
/-!
PROOFS. The advance of a plan (O31 to O33) and the requests about plans (O30, O34): the checks before a fetch, the steps one by one, and
what a plan's abort gives back.
-/
namespace Sys2Proof.Machine

section

variable {e : Env} {y : Yard} {f a n : Nat} {mark : Option Nat} {b : Bus}

/-! ### The checks before a fetch -/

/-- The yard with the bus's cursor at an address, as a step fetched there finds it. -/
def Yard.cursorAt (f a : Nat) (y : Yard) : Yard := y.setBus f (fun b => { b with cursor := some a })

/-- What an advance does with an executed step: it goes on at the address handed on, with so many steps left, or ends. -/
def Yard.goesOn (e : Env) (f n : Nat) (r : Yard × Option Nat) : Yard :=
  match r.2 with
  | some next => r.1.advanceSteps e f n none next
  | none => r.1

/-- A step that passes the four checks is executed with the cursor at its address (R39). -/
theorem Yard.advanceSteps_fetch {st : Step} (found : y.bus? f = some b) (range : a ≤ 511) (slot : e.plan.read a = some st)
    (placed : b.repeatCount = none ∨ st.takesRepeat = true) :
    y.advanceSteps e f (n + 1) mark a = Yard.goesOn e f n ((y.cursorAt f a).execStep e b a mark st) := by
  have inside : ¬ Config.planSlots ≤ a := Nat.not_le_of_lt (Nat.lt_succ_of_le range)
  have allowed : (b.repeatCount.isSome && !st.takesRepeat) = false := by
    rcases placed with h | h <;> simp [h]
  simp only [Yard.advanceSteps, found, if_neg inside, slot, allowed]
  rcases hr : (y.cursorAt f a).execStep e b a mark st with ⟨z, _ | next⟩ <;>
    simp only [Yard.cursorAt] at hr <;> simp only [hr] <;> rfl

/-- The steps that a repeat count may stand before (R39 check 4). -/
theorem Step.takesRepeat_false {st : Step} (wash : ∀ p, st ≠ .wash p) (hold : ∀ m, st ≠ .hold m) : st.takesRepeat = false := by
  cases st
  case wash p => exact absurd rfl (wash p)
  case hold m => exact absurd rfl (hold m)
  all_goals rfl

end

/-- Settles O31: the checks of R39 in the order in which an advance makes them. -/
theorem advanceChecks : Obligations.AdvanceChecks := by
  intro e y f a n mark b found
  refine ⟨rfl, fun past => ?_, fun range empty => ?_, fun st range slot counted wash hold => ?_⟩
  · simp only [Yard.advanceSteps, found]
    exact if_pos past
  all_goals have inside : ¬ Config.planSlots ≤ a := Nat.not_le_of_lt (Nat.lt_succ_of_le range)
  · simp only [Yard.advanceSteps, found, if_neg inside, empty]
    rfl
  · simp only [Yard.advanceSteps, found, if_neg inside, slot, counted, Step.takesRepeat_false wash hold]
    rfl

/-! ### The immediate and ending steps -/

/-- A TEST condition on the bus and the yard (R42, Table 3-3). -/
theorem Yard.testHolds_iff (b : Bus) (y : Yard) (c : TestCond) : y.testHolds b c = true ↔
    match c with
    | .fuelWanted => b.fuelWanted = true
    | .washWanted => b.washWanted = true
    | .frost => y.frost = true
    | .hasSlot => (y.departure? b.fleet).isSome
    | .slotBefore m => ∃ d, y.departure? b.fleet = some d ∧ d.slot < m
    | .residue => 0 < b.residue := by
  cases c
  case slotBefore m =>
    simp only [Yard.testHolds]
    cases y.departure? b.fleet <;> simp
  all_goals simp [Yard.testHolds]

/-- Settles O32: each step is fetched with the cursor at its address, and `execStep` says what it writes and where the advance goes on. -/
theorem immediateSteps : Obligations.ImmediateSteps := by
  intro e y f a n mark b found uncounted range here go holds
  obtain rfl := Yard.bus_fleet found
  have fetched {st : Step} (slot : e.plan.read a = some st) :
      go = Yard.goesOn e b.fleet n (here.execStep e b a mark st) :=
    Yard.advanceSteps_fetch found range slot (.inl uncounted)
  refine ⟨fun c slot => fetched slot, fun c target slot => ?_, fun target slot => fetched slot, fun target slot => ?_,
    fun slot => ?_, fun code slot => fetched slot, fun notify slot => fetched slot⟩
  · have test : here.testHolds b c = true ↔ holds c := by
      rw [Yard.testHolds_iff]
      cases c <;> exact Iff.rfl
    have stepped : go = here.advanceSteps e b.fleet n none (if here.testHolds b c then target else a + 1) := fetched slot
    exact ⟨fun met => by rw [stepped, if_pos (test.2 met)], fun unmet => by rw [stepped, if_neg (mt test.1 unmet)]⟩
  · have stepped {r : Yard × Option Nat} (executed : here.execStep e b a mark (.call target) = r) :
        go = Yard.goesOn e b.fleet n r := executed ▸ fetched slot
    refine ⟨fun full => stepped (if_pos full), fun room last => ?_, fun room inside => ?_⟩
    all_goals have pushable : ¬ Config.stackDepth ≤ b.stack.length := Nat.not_le_of_lt room
    · subst last
      exact stepped ((if_neg pushable).trans (if_pos (by decide)))
    · have returns : ¬ Config.planSlots ≤ a + 1 := Nat.not_le_of_lt (Nat.succ_lt_succ inside)
      exact stepped ((if_neg pushable).trans (if_neg returns))
  · rw [fetched slot]
    simp only [Yard.execStep]
    exact ⟨fun empty => by rw [empty]; rfl, fun r rest pushed => by rw [pushed]; rfl⟩

/-! ### The waiting steps -/

section

variable {e : Env} {y : Yard} {f a n m program : Nat} {mark : Option Nat} {b : Bus}

/-- A FUEL step joins a fuel queue, or stalls the plan when the pool is full (R45, R52, R56). -/
theorem Yard.advanceSteps_fuel (found : y.bus? f = some b) (range : a ≤ 511) (slot : e.plan.read a = some .fuel)
    (uncounted : b.repeatCount = none) :
    y.advanceSteps e f (n + 1) mark a =
      ((y.cursorAt f a).enqueueTurn e f (.fuel b.fuelKind)).getD ((y.cursorAt f a).planStalled e f 1 a) := by
  obtain rfl := Yard.bus_fleet found
  rw [Yard.advanceSteps_fetch found range slot (.inl uncounted)]
  simp only [Yard.execStep]
  cases (y.cursorAt b.fleet a).enqueueTurn e b.fleet (.fuel b.fuelKind) <;> rfl

/-- A WASH step in frost ends at once, its passes the residue; otherwise it joins the WASH queue, or stalls the plan (R46, R52). -/
theorem Yard.advanceSteps_wash (found : y.bus? f = some b) (range : a ≤ 511) (slot : e.plan.read a = some (.wash program)) :
    y.advanceSteps e f (n + 1) mark a =
      if y.frost then
        ((y.cursorAt f a).setBus f (fun c => { c with residue := b.repeatCount.getD 1, repeatCount := none })).advanceSteps e f n
          none (a + 1)
      else
        ((y.cursorAt f a).enqueueTurn e f (.wash program (b.repeatCount.getD 1))).getD ((y.cursorAt f a).planStalled e f 2 a) := by
  obtain rfl := Yard.bus_fleet found
  have flag : (y.cursorAt b.fleet a).frost = y.frost := rfl
  rw [Yard.advanceSteps_fetch found range slot (.inr rfl)]
  simp only [Yard.execStep, flag]
  split
  · rfl
  · cases (y.cursorAt b.fleet a).enqueueTurn e b.fleet (.wash program (b.repeatCount.getD 1)) <;> rfl

/-- Where no fleet number stands twice, a HOLD step starts the timer for its minutes times the bus's repeat count (R48). -/
theorem Yard.advanceSteps_hold (once : (y.fleet.map Bus.fleet).Nodup) (found : y.bus? f = some b) (range : a ≤ 511)
    (slot : e.plan.read a = some (.hold m)) :
    y.advanceSteps e f (n + 1) mark a =
      (y.cursorAt f a).setBus f (fun c => { c with wait := .hold, holdTimer := some (m * 60 * b.repeatCount.getD 1) }) := by
  obtain rfl := Yard.bus_fleet found
  have alone : ∀ c ∈ y.fleet, c.fleet = b.fleet → c = b := fun c hc same =>
    List.inj_on_of_nodup_map once hc (List.mem_of_find?_eq_some found) same
  rw [Yard.advanceSteps_fetch found range slot (.inr rfl)]
  simp only [Yard.execStep, Yard.goesOn, Yard.cursorAt, Yard.setBus, List.map_map]
  congr 1
  refine List.map_congr_left fun c hc => ?_
  simp only [Function.comp_apply]
  by_cases same : c.fleet = b.fleet
  · obtain rfl := alone c hc same
    simp only [if_true, minutes]
  · simp only [if_neg same]

end

/-- Two records of one fleet number, the second with a repeat count: no reachable yard, as the map rises (O59). -/
def twinYard : Yard :=
  { Yard.emptied Notices.cleared with
    fleet := [.enrolled 1 .diesel .standard 0 none, { Bus.enrolled 1 .diesel .standard 0 none with repeatCount := some 2 }] }

/-- A plan store that holds HOLD 1 at address 0. -/
def holdEnv : Env := { Env.reset with plan := [(0, .hold 1)] }

/-- The twins' HOLD: each record's timer runs for its own repeat count. -/
theorem twinYard_hold :
    (twinYard.advanceSteps holdEnv 1 1 none 0).fleet.map Bus.holdTimer = [some 60, some 120] := by decide

/-- Refutes O33, in its HOLD clause: on two records of one fleet number the model runs each timer by the record's own repeat count,
the statement both by the first's. `Yard.advanceSteps_hold` is the clause where the numbers are distinct, as they are in every
reachable yard; `Yard.advanceSteps_fuel` and `Yard.advanceSteps_wash` are what a fetch of the other two steps does in any. -/
theorem not_waitingSteps : ¬ Obligations.WaitingSteps := by
  intro h
  obtain ⟨-, -, hold⟩ := h holdEnv twinYard 1 0 0 none (.enrolled 1 .diesel .standard 0 none) rfl (by decide)
  have timers := congrArg (fun y => y.fleet.map Bus.holdTimer) (hold 1 rfl)
  exact absurd (twinYard_hold.symm.trans timers) (by decide)

/-! ### PLAN_START and PLAN_RESUME -/

section

variable {e : Env} {f : Nat}

theorem Yard.setBus_numbers (g : Bus → Bus) (keeps : ∀ b, (g b).fleet = b.fleet) (y : Yard) :
    (y.setBus f g).fleet.map Bus.fleet = y.fleet.map Bus.fleet := by
  simp only [Yard.setBus, List.map_map]
  refine List.map_congr_left fun b _ => ?_
  simp only [Function.comp_apply]
  split
  · exact keeps b
  · rfl

theorem Yard.planFault_numbers (cause : FaultCause) (a : Nat) (y : Yard) :
    (y.planFault e f cause a).fleet.map Bus.fleet = y.fleet.map Bus.fleet := Yard.setBus_numbers _ (by intro; rfl) y

theorem Yard.planStalled_numbers (code a : Nat) (y : Yard) :
    (y.planStalled e f code a).fleet.map Bus.fleet = y.fleet.map Bus.fleet := Yard.setBus_numbers _ (by intro; rfl) y

theorem Yard.enqueueTurn_numbers {r : TurnRequest} {y z : Yard} (h : y.enqueueTurn e f r = some z) :
    z.fleet.map Bus.fleet = y.fleet.map Bus.fleet := by
  unfold Yard.enqueueTurn at h
  split at h
  · cases h
  · cases h
    rw [Yard.raise_fleet, Yard.setWait, Yard.setBus_numbers _ (by intro; rfl), Yard.joinQueue_fleet]

theorem Yard.berthRequest_numbers (b : Bus) (arg : Option Nat) (lapses : Nat) (y : Yard) :
    (y.berthRequest e b arg lapses).fleet.map Bus.fleet = y.fleet.map Bus.fleet := by
  unfold Yard.berthRequest
  split
  · exact (Yard.Berths.reserve (kinds := [.berthAssigned]) (by simp) e b _ _ _ _ _ _ y).numbers
  · exact Yard.setBus_numbers _ (by intro; rfl) _

/-- No step adds a bus record or takes one out. -/
theorem Yard.execStep_numbers (b : Bus) (a : Nat) (mark : Option Nat) (st : Step) (y : Yard) :
    (y.execStep e b a mark st).1.fleet.map Bus.fleet = y.fleet.map Bus.fleet := by
  cases st <;> simp only [Yard.execStep]
  case note => rfl
  case fuel =>
    split
    · next joined => exact Yard.enqueueTurn_numbers joined
    · exact Yard.planStalled_numbers _ _ y
  case wash program =>
    split
    · exact Yard.setBus_numbers _ (by intro; rfl) y
    · split
      · next joined => exact Yard.enqueueTurn_numbers joined
      · exact Yard.planStalled_numbers _ _ y
  case park arg => exact Yard.berthRequest_numbers _ _ _ y
  case hold | rep => exact Yard.setBus_numbers _ (by intro; rfl) y
  case call target =>
    split
    · exact Yard.planFault_numbers _ _ y
    · split
      · exact Yard.planFault_numbers _ _ y
      · exact Yard.setBus_numbers _ (by intro; rfl) y
  case ret =>
    split
    · exact Yard.planFault_numbers _ _ y
    · exact Yard.setBus_numbers _ (by intro; rfl) y
  case finish notify =>
    split <;> exact Yard.setBus_numbers (f := b.fleet) (fun b => { b with wait := .ended, stack := [] }) (by intro; rfl) y

/-- No advance adds a bus record or takes one out. -/
theorem Yard.advanceSteps_numbers (f : Nat) : ∀ (n : Nat) (mark : Option Nat) (a : Nat) (y : Yard),
    (y.advanceSteps e f n mark a).fleet.map Bus.fleet = y.fleet.map Bus.fleet
  | 0, _, _, y => Yard.planFault_numbers _ _ y
  | n + 1, mark, a, y => by
    unfold Yard.advanceSteps
    split
    · rfl
    split
    · exact Yard.planFault_numbers _ _ y
    split
    · exact Yard.planFault_numbers _ _ y
    · next b _ _ _ st _ =>
      have executed : ((y.cursorAt f a).execStep e b a mark st).1.fleet.map Bus.fleet = y.fleet.map Bus.fleet :=
        (Yard.execStep_numbers b a mark st _).trans (Yard.setBus_numbers _ (by intro; rfl) y)
      unfold Yard.cursorAt at executed
      split
      · exact Yard.planFault_numbers _ _ y
      · split
        · next stepped =>
          rw [stepped] at executed
          exact (Yard.advanceSteps_numbers f n none _ _).trans executed
        · next stepped =>
          rw [stepped] at executed
          exact executed

/-- A record is found wherever the fleet numbers are the same. -/
theorem Yard.bus_of_numbers {y z : Yard} (same : z.fleet.map Bus.fleet = y.fleet.map Bus.fleet) (known : (y.bus? f).isSome) :
    ∃ b, z.bus? f = some b := by
  rw [← Option.isSome_iff_exists]
  have test (x : Yard) : (x.bus? f).isSome = true ↔ f ∈ x.fleet.map Bus.fleet := by
    simp [Yard.bus?]
  rw [test, same, ← test]
  exact known

end

/-- Settles O30: an advance keeps the bus's record, so the reply has a plan wait and a cursor to carry. -/
theorem plansStartedAndResumed : Obligations.PlansStartedAndResumed := by
  intro s tag fleet address running f a advanced
  have mode : inRunning s.mode = true := by rw [running]; rfl
  have valid_iff : fleetOk f = true ↔ fleetValid fleet := fleetOk_iff fleet
  refine ⟨?_, ?_⟩
  · intro body taken
    have fleetAt : wordAt body 2 = f := word_bytes fleet
    have addressAt : wordAt body 4 = a := word_bytes address
    have answered {t : State} {r : Reply} (act : startPlan body s = (t, r)) :
        exec .planStart s = .next (t.reply body r.result r.data) := exec_acts rfl taken rfl rfl mode act
    refine ⟨fun out => answered (r := .refuse .badValue) (if_pos ?_), fun valid range unknown => ?_,
      fun b valid range known => ⟨fun busy => ?_, fun idle => ?_⟩⟩
    · rw [fleetAt, addressAt, ← Bool.not_eq_true, valid_iff]
      exact out
    all_goals
      have passes : ¬ (fleetOk (wordAt body 2) = false ∨ Config.planSlots ≤ wordAt body 4) := by
        rw [fleetAt, addressAt, valid_iff.2 valid]
        simpa [Config.planSlots] using Nat.lt_succ_of_le range
    · refine answered (r := .refuse .notFound) ((if_neg passes).trans ?_)
      rw [fleetAt, unknown]
      rfl
    · refine answered (r := .refuse .wrongState) ((if_neg passes).trans ?_)
      rw [← PlanWait.startable_iff] at busy
      rw [fleetAt, known]
      exact if_neg busy
    · intro set
      obtain ⟨c, found⟩ := Yard.bus_of_numbers (y := s.yard) (z := set.advanceSteps s.env f 16 none a)
        ((Yard.advanceSteps_numbers f 16 none a set).trans (Yard.setBus_numbers _ (by intro; rfl) s.yard)) (by rw [known]; rfl)
      refine ⟨c, found, answered (r := .ok _) ((if_neg passes).trans ?_)⟩
      rw [fleetAt, addressAt, known, ← u16Absent_eq]
      refine (if_pos ((PlanWait.startable_iff _).2 idle)).trans ?_
      have shown : (s.yard.planStart s.env f a).planBytes f = u8 c.wait.code ++ u16Absent c.cursor := by
        have started : (s.yard.planStart s.env f a).bus? f = some c := found
        rw [Yard.planBytes, started]
      rw [← shown]
      rfl
  · intro body taken
    have fleetAt : wordAt body 2 = f := word_bytes fleet
    have answered {t : State} {r : Reply} (act : resumePlan body s = (t, r)) :
        exec .planResume s = .next (t.reply body r.result r.data) := exec_acts rfl taken rfl rfl mode act
    refine ⟨fun out => answered (r := .refuse .badValue) (if_pos ?_), fun valid unknown => ?_,
      fun b valid known => ⟨fun busy => ?_, fun at_ stalled cursor => ?_⟩⟩
    · rw [fleetAt, ← Bool.not_eq_true, valid_iff]
      exact out
    all_goals
      have passes : ¬ fleetOk (wordAt body 2) = false := by
        rw [fleetAt, valid_iff.2 valid]
        simp
    · refine answered (r := .refuse .notFound) ((if_neg passes).trans ?_)
      rw [fleetAt, unknown]
      rfl
    · refine answered (r := .refuse .wrongState) ((if_neg passes).trans ?_)
      rw [fleetAt, known]
      exact if_neg busy
    · obtain ⟨c, found⟩ := Yard.bus_of_numbers (y := s.yard) (z := s.yard.advanceSteps s.env f 16 none at_)
        (Yard.advanceSteps_numbers f 16 none at_ s.yard) (by rw [known]; rfl)
      refine ⟨c, found, answered (r := .ok _) ((if_neg passes).trans ?_)⟩
      rw [fleetAt, known, ← u16Absent_eq]
      refine (if_pos stalled).trans ?_
      rw [cursor]
      have shown : (s.yard.advance s.env f at_).planBytes f = u8 c.wait.code ++ u16Absent c.cursor := by
        have resumed : (s.yard.advance s.env f at_).bus? f = some c := found
        rw [Yard.planBytes, resumed]
      rw [← shown]
      rfl

/-! ### PLAN_ABORT -/

/-- Settles O34: the claim of each plan wait is given back before the plan fields are cleared. -/
theorem planAborted : Obligations.PlanAborted := by
  intro s tag fleet body f y running taken
  have mode : inRunning s.mode = true := by rw [running]; rfl
  have fleetAt : wordAt body 2 = f := word_bytes fleet
  have answered {t : State} {r : Reply} (act : abortPlanOf body s = (t, r)) :
      exec .planAbort s = .next (t.reply body r.result r.data) := exec_acts rfl taken rfl rfl mode act
  have passes (valid : fleetValid fleet) : ¬ fleetOk (wordAt body 2) = false := by
    rw [fleetAt, (fleetOk_iff fleet).2 valid]
    simp
  refine ⟨fun out => answered (r := .refuse .badValue) (if_pos ?_), fun valid unknown => ?_, ?_⟩
  · rw [fleetAt, ← Bool.not_eq_true, fleetOk_iff]
    exact out
  · refine answered (r := .refuse .notFound) ((if_neg (passes valid)).trans ?_)
    rw [fleetAt, unknown]
    rfl
  · intro b valid known aborted
    have here : b.fleet = f := Yard.bus_fleet known
    have given {z : Yard} (back : y.giveBack s.env b = z) : aborted z := by
      refine answered (r := .ok []) ((if_neg (passes valid)).trans ?_)
      rw [fleetAt, known, ← back, ← here]
      rfl
    refine ⟨fun free => given ?_, fun turn => given ?_, fun hold => given ?_, fun berth => given ?_,
      fun q called at_ => given ?_, fun n r entry held => ?_⟩
    · simp only [List.mem_cons, List.not_mem_nil, or_false] at free
      rcases free with w | w | w | w <;> simp only [Yard.giveBack, w]
    · rcases turn with w | w <;> simp only [Yard.giveBack, w, here]
    · simp only [Yard.giveBack, hold, here]
    · simp only [Yard.giveBack, berth, here]
      rfl
    · simp only [Yard.giveBack, called, here, Yard.dropCall, at_]
    · intro dropped freed
      refine given ?_
      have claim : (if (y.bus? f).any (fun b => b.shuntMarker.isSome) then dropped.releaseClaim f .shunt else dropped) =
          freed := by
        dsimp only [freed]
        rw [known]
        cases marker : b.shuntMarker <;> simp [marker]
      simp only [Yard.giveBack, entry, here, Yard.dropBerth, held]
      exact congrArg (fun z => (z.setBus f (fun b => { b with shuntMarker := none })).rerunWaits s.env) claim

end Sys2Proof.Machine
end

section
/-!
PROOFS. Berths and slots (O44, O46): the lane a PARK step is given, the berth wait list re-run, and the departure list with a key changed.
-/
namespace Sys2Proof.Machine

/-! ### The choice of a lane -/

section

variable {before after : List Lane} {l : Lane} {offer : Lane → Option (Nat × Int)} {best : Nat × Int}

theorem pickLeast_mem : ∀ {pairs : List (Nat × Int)} {p : Nat × Int}, pickLeast pairs = some p → p ∈ pairs
  | x :: rest, p, h => by
    rw [pickLeast] at h
    cases least : pickLeast rest with
    | none =>
      rw [least] at h
      cases h
      exact List.mem_cons_self
    | some r =>
      rw [least] at h
      have either : p = r ∨ p = x := by
        dsimp only at h
        split at h <;> simp_all
      rcases either with rfl | rfl
      · exact List.mem_cons_of_mem _ (pickLeast_mem least)
      · exact List.mem_cons_self

/-- The first of the least: below every pair before it, at most every pair behind it. -/
theorem pickLeast_first {x : Nat × Int} {post : List (Nat × Int)} (behind : ∀ p ∈ post, x.2 ≤ p.2) :
    ∀ {pre : List (Nat × Int)}, (∀ p ∈ pre, x.2 < p.2) → pickLeast (pre ++ x :: post) = some x
  | [], _ => by
    rw [List.nil_append, pickLeast]
    cases least : pickLeast post with
    | none => rfl
    | some r => exact if_neg (not_lt.2 (behind r (pickLeast_mem least)))
  | p :: pre, ahead => by
    obtain ⟨first, rest⟩ := List.forall_mem_cons.1 ahead
    rw [List.cons_append, pickLeast, pickLeast_first behind rest]
    exact if_pos first

/-- Of the lanes that make an offer the first of the least one is picked. -/
theorem pickLeast_offers (made : offer l = some best) (ahead : ∀ x ∈ before, ∀ p, offer x = some p → best.2 < p.2)
    (behind : ∀ x ∈ after, ∀ p, offer x = some p → best.2 ≤ p.2) :
    pickLeast ((before ++ l :: after).filterMap offer) = some best := by
  rw [List.filterMap_append, List.filterMap_cons_some made]
  refine pickLeast_first (fun p hp => ?_) (fun p hp => ?_)
  all_goals obtain ⟨x, hx, hp⟩ := List.mem_filterMap.1 hp
  · exact behind x hx p hp
  · exact ahead x hx p hp

/-- No lane is picked where none makes an offer. -/
theorem pickLeast_noOffer {lanes : List Lane} (no : ∀ x ∈ lanes, offer x = none) : pickLeast (lanes.filterMap offer) = none := by
  rw [List.filterMap_eq_nil_iff.2 no]
  rfl

end

section

variable {e : Env} {y : Yard} {f a : Nat} {b : Bus}

/-- The lane is usable for the bus (R98). -/
theorem Yard.usable_iff (y : Yard) (b : Bus) (l : Lane) : y.usable b l = true ↔
    l.closed = false ∧ l.hold = 0 ∧ l.mismatch = false ∧ l.dark = false ∧ (b.length.places : Int) ≤ y.freePlaces l ∧
      (b.fuelKind = .gas → l.gas = true) := by
  have fuel : (l.gas || b.fuelKind == .diesel) = true ↔ (b.fuelKind = .gas → l.gas = true) := by
    cases b.fuelKind <;> simp
  simp only [Yard.usable, Bool.and_eq_true, fuel, Bool.not_eq_true', beq_iff_eq, decide_eq_true_eq, and_assoc]

/-- The entry neighbour (Table 6-3): the newest reservation's bus, or else the occupant at the entry end. -/
theorem Lane.entryNeighbour_eq (l : Lane) : l.entryNeighbour =
    (l.reservations.getLast?.map Reservation.bus).or
      (if l.kind = .through then l.occupants.getLast? else l.occupants.head?) := by
  unfold Lane.entryNeighbour
  cases l.reservations.getLast? <;> cases l.kind <;> rfl

/-- The gap of a compliant lane (Table 6-3). -/
theorem Yard.gap_iff (y : Yard) (k g : Nat) (l : Lane) : y.gap? k l = some g ↔
    (l.entryNeighbour = none ∧ g = 1441) ∨
      (∃ nb, l.entryNeighbour = some nb ∧ l.kind = .through ∧ y.key nb ≤ k ∧ g = k - y.key nb) ∨
      (∃ nb, l.entryNeighbour = some nb ∧ l.kind = .blind ∧ k ≤ y.key nb ∧ g = y.key nb - k) := by
  unfold Yard.gap?
  cases l.entryNeighbour with
  | none => simp [Config.emptyLaneGap, eq_comm]
  | some nb => cases l.kind <;> simp [eq_comm]

/-- A cursor set leaves every bus the places it takes. -/
theorem Yard.busPlaces_cursorAt (f a g : Nat) (y : Yard) : (y.cursorAt f a).busPlaces g = y.busPlaces g := by
  unfold Yard.busPlaces Yard.cursorAt
  rw [Yard.bus_setBus _ _ _ (by intro; rfl)]
  cases y.bus? g <;> by_cases same : g = f <;> simp [same]

theorem Yard.freePlaces_cursorAt (f a : Nat) (l : Lane) (y : Yard) : (y.cursorAt f a).freePlaces l = y.freePlaces l := by
  unfold Yard.freePlaces Yard.occupied
  rw [funext fun g => Yard.busPlaces_cursorAt f a g y]

/-- A berth is chosen as before the cursor was set: lanes, keys and places are the same. -/
theorem Yard.chooseBerth_cursorAt (arg : Option Nat) : (y.cursorAt f a).chooseBerth e b arg = y.chooseBerth e b arg := by
  have usable : (y.cursorAt f a).usable b = y.usable b := by
    funext l
    unfold Yard.usable
    rw [Yard.freePlaces_cursorAt]
  unfold Yard.chooseBerth Yard.compliant Yard.roomiest
  rw [usable, funext fun l => Yard.freePlaces_cursorAt f a l y]
  rfl

/-! ### The berth of a PARK step -/

/-- A PARK step is a request for a berth (R47). -/
theorem Yard.advanceSteps_park {n : Nat} {mark arg : Option Nat} (found : y.bus? f = some b) (range : a ≤ 511)
    (slot : e.plan.read a = some (.park arg)) (uncounted : b.repeatCount = none) :
    y.advanceSteps e f (n + 1) mark a = (y.cursorAt f a).berthRequest e b arg (mark.getD 0) :=
  Yard.advanceSteps_fetch found range slot (.inl uncounted)

/-- What a compliant lane offers an AUTO request: its gap (R99 step 1). -/
def Yard.gapOffer (y : Yard) (b : Bus) (l : Lane) : Option (Nat × Int) :=
  if y.usable b l then (y.gap? (y.key b.fleet) l).map (fun g : Nat => (l.number, (g : Int))) else none

/-- What a usable lane offers an AUTO request that may invert: its free places, the most the least (R99 step 2). -/
def Yard.spaceOffer (y : Yard) (b : Bus) (l : Lane) : Option (Nat × Int) :=
  if y.usable b l then some (l.number, - y.freePlaces l) else none

theorem Yard.compliant_eq (y : Yard) (b : Bus) : y.compliant b = y.lanes.filterMap (y.gapOffer b) := by
  unfold Yard.compliant Yard.gapOffer
  congr 1
  funext l
  cases y.gap? (y.key b.fleet) l <;> rfl

theorem Yard.gapOffer_iff {l : Lane} {p : Nat × Int} : y.gapOffer b l = some p ↔
    y.usable b l = true ∧ ∃ g : Nat, y.gap? (y.key b.fleet) l = some g ∧ (l.number, (g : Int)) = p := by
  unfold Yard.gapOffer
  split
  · next fits => simp only [fits, true_and, Option.map_eq_some_iff]
  · next unfit => simp [unfit]

theorem Yard.spaceOffer_iff {l : Lane} {p : Nat × Int} : y.spaceOffer b l = some p ↔
    y.usable b l = true ∧ (l.number, - y.freePlaces l) = p := by
  unfold Yard.spaceOffer
  split
  · next fits => simp only [fits, true_and, Option.some.injEq]
  · next unfit => simp [unfit]

/-- AUTO with a compliant lane: the smallest gap, of equals the first lane (R99 step 1). -/
theorem Yard.chooseBerth_compliant {before after : List Lane} {l : Lane} {g : Nat} (lanes : y.lanes = before ++ l :: after)
    (usable : y.usable b l = true) (gap : y.gap? (y.key b.fleet) l = some g)
    (ahead : ∀ x ∈ before, ∀ h, y.usable b x = true → y.gap? (y.key b.fleet) x = some h → g < h)
    (behind : ∀ x ∈ after, ∀ h, y.usable b x = true → y.gap? (y.key b.fleet) x = some h → g ≤ h) :
    y.chooseBerth e b none = some (l.number, 1, g) := by
  have least : pickLeast (y.compliant b) = some (l.number, (g : Int)) := by
    rw [Yard.compliant_eq, lanes]
    refine pickLeast_offers (Yard.gapOffer_iff.2 ⟨usable, g, gap, rfl⟩) (fun x hx p offer => ?_) (fun x hx p offer => ?_)
    all_goals obtain ⟨fits, h, gap, rfl⟩ := Yard.gapOffer_iff.1 offer
    · exact Int.ofNat_lt.2 (ahead x hx h fits gap)
    · exact Int.ofNat_le.2 (behind x hx h fits gap)
  rw [Yard.chooseBerth, least]
  rfl

/-- No usable lane is compliant (R99 step 1). -/
theorem Yard.compliant_none (no : ∀ x ∈ y.lanes, ∀ h, ¬ (y.usable b x = true ∧ y.gap? (y.key b.fleet) x = some h)) :
    pickLeast (y.compliant b) = none := by
  rw [Yard.compliant_eq]
  refine pickLeast_noOffer fun x hx => Option.eq_none_iff_forall_ne_some.2 fun p offer => ?_
  obtain ⟨fits, h, gap, -⟩ := Yard.gapOffer_iff.1 offer
  exact no x hx h ⟨fits, gap⟩

/-- AUTO with no compliant lane and inversion allowed: the most free places, of equals the first lane (R99 step 2). -/
theorem Yard.chooseBerth_roomiest {before after : List Lane} {l : Lane} (none_ : pickLeast (y.compliant b) = none)
    (allowed : e.params.invertAllowed = true) (lanes : y.lanes = before ++ l :: after) (usable : y.usable b l = true)
    (ahead : ∀ x ∈ before, y.usable b x = true → y.freePlaces x < y.freePlaces l)
    (behind : ∀ x ∈ after, y.usable b x = true → y.freePlaces x ≤ y.freePlaces l) :
    y.chooseBerth e b none = some (l.number, 2, 0) := by
  have least : pickLeast (y.roomiest b) = some (l.number, - y.freePlaces l) := by
    show pickLeast (y.lanes.filterMap (y.spaceOffer b)) = _
    rw [lanes]
    refine pickLeast_offers (Yard.spaceOffer_iff.2 ⟨usable, rfl⟩) (fun x hx p offer => ?_) (fun x hx p offer => ?_)
    all_goals obtain ⟨fits, rfl⟩ := Yard.spaceOffer_iff.1 offer
    · exact neg_lt_neg (ahead x hx fits)
    · exact neg_le_neg (behind x hx fits)
  simp only [Yard.chooseBerth, none_, if_pos allowed, least, Option.map_some]

/-- AUTO with no compliant lane and no inversion: none allowed, or no usable lane (R99). -/
theorem Yard.chooseBerth_nowhere (none_ : pickLeast (y.compliant b) = none)
    (barred : e.params.invertAllowed = false ∨ ∀ x ∈ y.lanes, ¬ y.usable b x = true) : y.chooseBerth e b none = none := by
  simp only [Yard.chooseBerth, none_]
  rcases barred with barred | barred
  · simp [barred]
  · have empty : pickLeast (y.roomiest b) = none := pickLeast_noOffer fun x hx => if_neg (barred x hx)
    simp [empty]

/-- A named lane (R100). -/
theorem Yard.chooseBerth_named (m : Nat) : y.chooseBerth e b (some m) =
    (y.lane? m).bind (fun l => if y.usable b l then some (m, 3, 0) else none) := by
  simp only [Yard.chooseBerth]
  cases y.lane? m <;> rfl

end

/-- Settles O44: a PARK step is a request for a berth, and the lane chosen is the first of the least by gap, or by free places. -/
theorem parkSteps : Obligations.ParkSteps := by
  intro e y f a n mark arg b found uncounted range slot here go usable key neighbour gap reserved waits
  obtain rfl := Yard.bus_fleet found
  have requested : go = here.berthRequest e b arg (mark.getD 0) := Yard.advanceSteps_park found range slot uncounted
  have chosen : here.chooseBerth e b arg = y.chooseBerth e b arg := Yard.chooseBerth_cursorAt arg
  have fits (l : Lane) : y.usable b l = true ↔ usable l := Yard.usable_iff y b l
  have measured (l : Lane) (g : Nat) : y.gap? (y.key b.fleet) l = some g ↔ gap l g := by
    rw [Yard.gap_iff, Lane.entryNeighbour_eq, Yard.key_eq]
  have granted {l : Lane} {code quantity : Nat} (berth : y.chooseBerth e b arg = some (l.number, code, quantity)) :
      reserved l code quantity := by
    refine requested.trans ?_
    rw [Yard.berthRequest, chosen, berth]
    rfl
  have refused {code : Nat} (nowhere : y.chooseBerth e b arg = none) (coded : y.noBerthCode arg = code) : waits code := by
    subst coded
    refine requested.trans ?_
    rw [Yard.berthRequest, chosen, nowhere]
    rfl
  refine ⟨fun m named => ?_, fun auto => ?_⟩
  · subst named
    refine ⟨fun l lane ok => granted ?_, fun l lane bad => refused ?_ ?_, fun unknown => refused ?_ ?_⟩
    · rw [Yard.chooseBerth_named, lane, Option.bind_some, if_pos ((fits l).2 ok), Yard.lane_number lane]
    · rw [Yard.chooseBerth_named, lane, Option.bind_some, if_neg (mt (fits l).1 bad)]
    · rw [Yard.noBerthCode, lane]
      rfl
    · rw [Yard.chooseBerth_named, unknown, Option.bind_none]
    · rw [Yard.noBerthCode, unknown]
      rfl
  · subst auto
    simp only [← fits, ← measured]
    refine ⟨fun before l after g lanes ok least ahead behind => granted ?_, fun none_ => ?_⟩
    · exact Yard.chooseBerth_compliant lanes ok least ahead behind
    · have uncompliant := Yard.compliant_none none_
      refine ⟨fun barred => refused ?_ rfl, fun full => refused ?_ rfl,
        fun before l after allowed lanes ok ahead behind => granted ?_⟩
      · exact Yard.chooseBerth_nowhere uncompliant (.inl barred)
      · exact Yard.chooseBerth_nowhere uncompliant (.inr full)
      · exact Yard.chooseBerth_roomiest uncompliant allowed lanes ok ahead behind

/-! ### Keys changed -/

section

variable {e : Env} {y : Yard} {b : Bus}

/-- The wanting of a SIGN neither reads nor writes bus records. -/
theorem Yard.wantSign_setBus (n f : Nat) (g : Bus → Bus) (y : Yard) :
    (y.setBus f g).wantSign n = (y.wantSign n).setBus f g := by
  unfold Yard.wantSign
  rw [Yard.lane_setBus, Yard.unsent_setBus]
  repeat' split
  all_goals rfl

/-- A sign update neither reads nor writes bus records. -/
theorem Yard.updateSign_setBus (n f : Nat) (g : Bus → Bus) (y : Yard) :
    (y.setBus f g).updateSign n = (y.updateSign n).setBus f g := by
  unfold Yard.updateSign
  rw [Yard.lane_setBus]
  split
  · rfl
  · split
    · rfl
    · exact Yard.wantSign_setBus n f g (y.setLane n _)

/-- A plan wait set twice is the one set last. -/
theorem Yard.setWait_setWait (f : Nat) (v w : PlanWait) (y : Yard) : (y.setWait f v).setWait f w = y.setWait f w := by
  simp only [Yard.setWait, Yard.setBus, List.map_map]
  congr 1
  refine List.map_congr_left fun c _ => ?_
  simp only [Function.comp_apply]
  split <;> simp_all

/-- The plan wait of a reservation may be set after it is made. -/
theorem Yard.reserve_setWait (n : Nat) (kind : ReservationKind) (v w : PlanWait) (lapses code quantity : Nat) (y : Yard) :
    (y.reserve e b n kind v lapses code quantity).setWait b.fleet w = y.reserve e b n kind w lapses code quantity := by
  have moved (z : Yard) : ((z.setWait b.fleet v).updateSign n).setWait b.fleet w = (z.setWait b.fleet w).updateSign n := by
    rw [← Yard.setWait_setWait b.fleet v w z]
    exact (Yard.updateSign_setBus n b.fleet _ _).symm
  unfold Yard.reserve
  exact congrArg (fun z => Yard.post e .berthAssigned b.fleet (some (.lane n)) code quantity z) (moved _)

/-- An entry tried as its PARK step would be: left where it stands when it gets no berth, and the plan wait of a bus not in BERTH
kept (R49, R103). -/
theorem Yard.retryWait_eq {w : BerthWait} (found : y.bus? w.bus = some b) :
    let left := y.leaveWaits w.bus
    let tried := left.berthRequest e b w.lane w.lapses
    y.retryWait e w =
      if tried.waits ≠ left.waits then y
      else if b.wait = .berth then tried
      else tried.setWait w.bus b.wait := by
  intro left tried
  have here : b.fleet = w.bus := Yard.bus_fleet found
  have same : left.chooseBerth e b w.lane = y.chooseBerth e b w.lane := rfl
  cases berth : y.chooseBerth e b w.lane with
  | none =>
    have joined : tried.waits = left.waits ++ [{ bus := b.fleet, lane := w.lane, lapses := w.lapses }] := by
      simp only [tried, Yard.berthRequest, same, berth]
      rfl
    have stays : y.retryWait e w = y := by simp only [Yard.retryWait, found, berth]
    rw [if_pos (by simp [joined]), stays]
  | some r =>
    obtain ⟨n, code, quantity⟩ := r
    have reserved : tried = left.reserve e b n .park .entry w.lapses code quantity := by
      simp only [tried, Yard.berthRequest, same, berth]
    have granted : y.retryWait e w = left.reserve e b n .park b.wait.berthGranted w.lapses code quantity := by
      simp only [Yard.retryWait, found, berth, left]
    rw [granted, if_neg (by simp [reserved]), reserved]
    split
    · next waiting => rw [PlanWait.berthGranted, if_pos waiting]
    · next other => rw [PlanWait.berthGranted, if_neg other, ← here, Yard.reserve_setWait]

/-- An entry of a bus without a record is passed over. -/
theorem Yard.retryWait_unknown {w : BerthWait} (unknown : y.bus? w.bus = none) : y.retryWait e w = y := by
  simp only [Yard.retryWait, unknown]

/-- A recount of inversions (R97): the count, and LANE_DISORDER when it leaves 0. -/
theorem Yard.recountInversions_eq {n : Nat} {l : Lane} (found : y.lane? n = some l) :
    let count := min 11 (countInversions y.key l.occupants)
    let counted := y.setLane n (fun l => { l with inversions := count })
    y.recountInversions e n =
      if l.inversions = 0 ∧ 0 < count then counted.post e .laneDisorder 0 (some (.lane n)) 0 count else counted := by
  simp only [Yard.recountInversions, found]

end

/-! ### The departure list -/

/-- An entry inserted stands after those at or below its slot and before the first later one (R124, R126). -/
theorem insertDeparture_eq (d : Departure) : ∀ l : List Departure, insertDeparture d l =
    l.takeWhile (fun x => x.slot ≤ d.slot) ++ d :: l.dropWhile (fun x => x.slot ≤ d.slot)
  | [] => rfl
  | x :: rest => by
    rw [insertDeparture]
    by_cases h : x.slot ≤ d.slot <;> simp [h, insertDeparture_eq d rest]

/-- RELEASED and OUTBOUND are the states that are not unreleased. -/
theorem DepartureState.unreleased_iff (d : DepartureState) : d.unreleased = true ↔ ¬ (d = .released ∨ d = .outbound) := by
  cases d <;> simp [DepartureState.unreleased]

/-- A key change recounts the lane that holds the bus, if one does, and re-runs the berth wait list (R97, R103, R123). -/
theorem Yard.keyChanged_held {e : Env} {y : Yard} {f : Nat} {l : Lane}
    (held : y.lanes.find? (fun l => l.occupants.contains f) = some l) :
    y.keyChanged e f = (y.recountInversions e l.number).rerunWaits e := by
  simp only [Yard.keyChanged, held]

theorem Yard.keyChanged_nowhere {e : Env} {y : Yard} {f : Nat} (nowhere : ∀ l ∈ y.lanes, f ∉ l.occupants) :
    y.keyChanged e f = y.rerunWaits e := by
  have free : y.lanes.find? (fun l => l.occupants.contains f) = none :=
    List.find?_eq_none.2 (fun l hl => by simpa using nowhere l hl)
  simp only [Yard.keyChanged, free]

/-- The fleet number or the slot minute of a SLOT_ADD or SLOT_MOVE is out of range (R124, R126). -/
theorem slotFields_out {fleet : Word} {m : Nat} : fleetOk fleet.toNat = false ∨ slotOk m = false ↔
    ¬ fleetValid fleet ∨ 1439 < m := by
  rw [← Bool.not_eq_true, fleetOk_iff]
  simp [slotOk]

/-- SLOT_ADD's new entry (R124). -/
theorem Yard.addSlot_eq (e : Env) (f m : Nat) (y : Yard) :
    let d : Departure := { slot := m, bus := f, state := .waiting, mark := y.nextMark, noticeSent := false, lapse := none }
    y.addSlot e f m =
      ({ y with
        departures := y.departures.takeWhile (fun x => x.slot ≤ m) ++ d :: y.departures.dropWhile (fun x => x.slot ≤ m) } :
        Yard).keyChanged e f := by
  intro d
  rw [Yard.addSlot, insertDeparture_eq]

/-- SLOT_MOVE's entry, taken out and placed anew (R126). -/
theorem Yard.moveSlot_eq {e : Env} {f : Nat} {d : Departure} {y : Yard} (m : Nat) (entry : y.departure? f = some d) :
    let moved : Departure := { d with slot := m, mark := y.nextMark, state := .waiting, noticeSent := false }
    let others := y.departures.filter (fun d => d.bus != f)
    y.moveSlot e f m =
      ({ y with
        departures := others.takeWhile (fun x => x.slot ≤ m) ++ moved :: others.dropWhile (fun x => x.slot ≤ m) } :
        Yard).keyChanged e f := by
  intro moved others
  simp only [Yard.moveSlot, entry, insertDeparture_eq]
  rfl

/-- Settles O46: the key change by the rules of its recount and its re-run, then each request's checks and the list it leaves. -/
theorem slotsChanged : Obligations.SlotsChanged := by
  refine ⟨?_, ?_⟩
  · intro e y f key retried
    have retry : Yard.retryWait e = retried := by
      funext z w
      dsimp only [retried]
      split
      · next unknown => exact Yard.retryWait_unknown unknown
      · next b found => exact Yard.retryWait_eq found
    refine ⟨?_, fun l held => Yard.keyChanged_held held, Yard.keyChanged_nowhere, ?_,
      fun b arg a n mark found uncounted range slot => Yard.advanceSteps_park found range slot uncounted⟩
    · intro n l found pairs count counted
      have counts : min 11 (countInversions y.key l.occupants) = count := by rw [countInversions_eq, Yard.key_eq]
      have recounted := Yard.recountInversions_eq (e := e) found
      rw [counts] at recounted
      exact ⟨fun clear disordered => recounted.trans (if_pos ⟨clear, disordered⟩),
        fun stands => recounted.trans (if_neg (by omega))⟩
    · rw [Yard.rerunWaits, retry]
  · intro s tag fleet slot running f m y listed placed others leaving
    have mode : inRunning s.mode = true := by rw [running]; rfl
    have leaves (d : Departure) : d.state.unreleased = true ↔ ¬ leaving d := DepartureState.unreleased_iff d.state
    have newest : ∀ x ∈ y.departures, x.mark < y.nextMark := fun x hx => Yard.mark_lt_next hx
    have named (valid : fleetValid fleet) : ¬ fleetOk f = false := by
      rw [(fleetOk_iff fleet).2 valid]
      simp
    have passes (valid : fleetValid fleet) (range : m ≤ 1439) : ¬ (fleetOk f = false ∨ slotOk m = false) :=
      mt slotFields_out.1 (not_or.2 ⟨not_not.2 valid, Nat.not_lt.2 range⟩)
    refine ⟨?_, ?_, ?_⟩
    · intro body taken
      have fleetAt : wordAt body 2 = f := word_bytes fleet
      have slotAt : wordAt body 4 = m := word_bytes slot
      have answered {t : State} {r : Reply} (act : addSlotOf body s = (t, r)) :
          exec .slotAdd s = .next (t.reply body r.result r.data) := exec_acts rfl taken rfl rfl mode act
      unfold addSlotOf at answered
      simp only [fleetAt, slotAt] at answered
      refine ⟨fun out => answered (r := .refuse .badValue) (if_pos (slotFields_out.2 out)),
        fun valid range unknown => answered (r := .refuse .notFound) ((if_neg (passes valid range)).trans (if_pos ?_)),
        fun valid range known entered => answered (r := .refuse .exists_) ((if_neg (passes valid range)).trans ?_),
        fun valid range known fresh => ⟨y.nextMark, newest, answered (r := .ok []) ((if_neg (passes valid range)).trans ?_)⟩⟩
      · rw [unknown]
        rfl
      all_goals
        have there : ¬ (s.yard.bus? f).isNone = true := by
          rw [Option.isNone_iff_eq_none]
          exact Option.isSome_iff_ne_none.1 known
      · exact (if_neg there).trans (if_pos entered)
      · refine (if_neg there).trans ((if_neg (Option.not_isSome_iff_eq_none.2 fresh)).trans ?_)
        rw [Yard.addSlot_eq]
        rfl
    · intro body taken
      have fleetAt : wordAt body 2 = f := word_bytes fleet
      have answered {t : State} {r : Reply} (act : removeSlotOf body s = (t, r)) :
          exec .slotRemove s = .next (t.reply body r.result r.data) := exec_acts rfl taken rfl rfl mode act
      unfold removeSlotOf at answered
      simp only [fleetAt] at answered
      refine ⟨fun out => answered (r := .refuse .badValue) (if_pos ?_),
        fun valid absent => answered (r := .refuse .notFound) ((if_neg (named valid)).trans ?_), fun d valid known entry => ?_⟩
      · rw [← Bool.not_eq_true, fleetOk_iff]
        exact out
      · split
        · next b d known entry => exact absurd absent (by simp [y, known, entry])
        · rfl
      · obtain ⟨b, found⟩ := Option.isSome_iff_exists.1 known
        refine ⟨fun gone => answered (r := .refuse .wrongState) ((if_neg (named valid)).trans ?_),
          fun stays => answered (r := .ok []) ((if_neg (named valid)).trans ?_)⟩
        all_goals rw [found, entry]
        · exact if_neg (fun stays => (leaves d).1 stays gone)
        · exact if_pos ((leaves d).2 stays)
    · intro body taken
      have fleetAt : wordAt body 2 = f := word_bytes fleet
      have slotAt : wordAt body 4 = m := word_bytes slot
      have answered {t : State} {r : Reply} (act : moveSlotOf body s = (t, r)) :
          exec .slotMove s = .next (t.reply body r.result r.data) := exec_acts rfl taken rfl rfl mode act
      unfold moveSlotOf at answered
      simp only [fleetAt, slotAt] at answered
      refine ⟨fun out => answered (r := .refuse .badValue) (if_pos (slotFields_out.2 out)),
        fun valid range absent => answered (r := .refuse .notFound) ((if_neg (passes valid range)).trans ?_),
        fun d valid range known entry => ?_⟩
      · split
        · next b d known entry => exact absurd absent (by simp [y, known, entry])
        · rfl
      · obtain ⟨b, found⟩ := Option.isSome_iff_exists.1 known
        refine ⟨fun gone => answered (r := .refuse .wrongState) ((if_neg (passes valid range)).trans ?_),
          fun stays => ⟨y.nextMark, newest, answered (r := .ok []) ((if_neg (passes valid range)).trans ?_)⟩⟩
        all_goals rw [found, entry]
        · exact if_neg (fun stays => (leaves d).1 stays gone)
        · refine (if_pos ((leaves d).2 stays)).trans ?_
          rw [Yard.moveSlot_eq m entry]
          rfl

end Sys2Proof.Machine
end

section
/-!
PROOFS. Wash lanes (O36): FROST_SET, and what the walk of the WASH queue by the frost leaves as it stands.
-/
namespace Sys2Proof.Machine

section

variable {e : Env} {f : Nat} {x y z : Yard}

/-! ### What an event in frost leaves as it stands -/

/-- From `y` to `z` the WASH queue gained no entry, no call and no missed call was posted, and the frost flag, the stations, the
departures, the pull-out and the command in flight stand. -/
structure Yard.FrostFrame (y z : Yard) : Prop where
  frost : z.frost = y.frost
  stations : z.stations = y.stations
  departures : z.departures = y.departures
  pullout : z.pullout = y.pullout
  inFlight : z.inFlight = y.inFlight
  washQueue : z.washQueue ⊆ y.washQueue
  silent : SilentOn [.turnCalled, .callMissed] y z

namespace Yard.FrostFrame

theorem same (frost : z.frost = y.frost) (stations : z.stations = y.stations) (departures : z.departures = y.departures)
    (pullout : z.pullout = y.pullout) (inFlight : z.inFlight = y.inFlight) (queue : z.washQueue = y.washQueue)
    (notices : z.notices = y.notices) : y.FrostFrame z :=
  ⟨frost, stations, departures, pullout, inFlight, queue ▸ List.Subset.refl _, fun _ _ => by rw [notices]⟩

theorem refl (y : Yard) : y.FrostFrame y := same rfl rfl rfl rfl rfl rfl rfl

theorem trans (h : x.FrostFrame y) (k : y.FrostFrame z) : x.FrostFrame z :=
  ⟨k.frost.trans h.frost, k.stations.trans h.stations, k.departures.trans h.departures, k.pullout.trans h.pullout,
    k.inFlight.trans h.inFlight, List.Subset.trans k.washQueue h.washQueue,
    fun kind hk => (k.silent kind hk).trans (h.silent kind hk)⟩

/-- What grants berths and recomputes lanes is of the kind, if it posts neither notice. -/
theorem berths {kinds : List NoticeKind} (called : .turnCalled ∉ kinds) (missed : .callMissed ∉ kinds)
    (h : Yard.Berths kinds y z) : y.FrostFrame z := by
  refine ⟨h.frost, h.stations, h.departures, h.pullout, h.inFlight, h.washQueue ▸ List.Subset.refl _, fun k hk => h.silent k ?_⟩
  rcases List.mem_pair.1 hk with rfl | rfl
  · exact called
  · exact missed

/-! ### The records' own updates -/

theorem setBus (g : Bus → Bus) (y : Yard) : y.FrostFrame (y.setBus f g) := same rfl rfl rfl rfl rfl rfl rfl

theorem freeTurn (y : Yard) : y.FrostFrame (y.freeTurn f) :=
  ⟨rfl, rfl, rfl, rfl, rfl, List.filter_subset_self _, fun _ _ => rfl⟩

/-- A notice that is neither of the two. -/
theorem post {kind : NoticeKind} (called : kind ≠ .turnCalled) (missed : kind ≠ .callMissed) (place : Option Place)
    (code quantity : Nat) (y : Yard) : y.FrostFrame (y.post e kind f place code quantity) :=
  berths (kinds := [kind]) (by simpa using called.symm) (by simpa using missed.symm)
    (.post e List.mem_cons_self f place code quantity y)

/-! ### An advance of a plan in frost -/

theorem planFault (cause : FaultCause) (a : Nat) (y : Yard) : y.FrostFrame (y.planFault e f cause a) :=
  (setBus _ y).trans (post (kind := .planFault) (by decide) (by decide) _ _ _ _)

/-- A turn asked of the islands joins a fuel queue (R57). -/
theorem enqueueFuel {kind : FuelKind} (joined : y.enqueueTurn e f (.fuel kind) = some z) : y.FrostFrame z := by
  have fuelQueue (code : Nat) (fuel : code = 1 ∨ code = 2) (t : PoolEntry) : (y.joinQueue code t).washQueue = y.washQueue := by
    rcases fuel with rfl | rfl <;> rfl
  have code : y.queueFor e f (.fuel kind) = 1 ∨ y.queueFor e f (.fuel kind) = 2 := by
    unfold Yard.queueFor
    dsimp only
    repeat' split
    all_goals simp
  unfold Yard.enqueueTurn at joined
  split at joined
  · cases joined
  · cases joined
    exact same (Yard.joinQueue_frost ..) (Yard.joinQueue_stations ..) (Yard.joinQueue_departures ..) (Yard.joinQueue_pullout ..)
      (Yard.joinQueue_inFlight ..) (fuelQueue _ code _) (Yard.joinQueue_notices ..)

theorem berthRequest (b : Bus) (arg : Option Nat) (lapses : Nat) (y : Yard) : y.FrostFrame (y.berthRequest e b arg lapses) := by
  unfold Yard.berthRequest
  split
  · exact berths (kinds := [.berthAssigned]) (by decide) (by decide) (.reserve (by simp) e b _ _ _ _ _ _ y)
  · refine trans ?_ (post (kind := .noBerth) (by decide) (by decide) _ _ _ _)
    exact same rfl rfl rfl rfl rfl rfl rfl

/-- In frost no step of a plan makes an entry of the WASH queue: a WASH step ends at once (R46). -/
theorem execStep (b : Bus) (a : Nat) (mark : Option Nat) (st : Step) (frost : y.frost = true) :
    y.FrostFrame (y.execStep e b a mark st).1 := by
  cases st <;> simp only [Yard.execStep]
  case fuel =>
    split
    · next joined => exact enqueueFuel joined
    · exact (setBus _ y).trans (post (by decide) (by decide) _ _ _ _)
  case wash program =>
    rw [if_pos frost]
    exact setBus _ y
  case park arg => exact berthRequest _ _ _ y
  case hold | rep => exact setBus _ y
  case test | jump => exact refl y
  case call target =>
    split
    · exact planFault _ _ y
    · split
      · exact planFault _ _ y
      · exact setBus _ y
  case ret =>
    split
    · exact planFault _ _ y
    · exact setBus _ y
  case note => exact post (by decide) (by decide) _ _ _ y
  case finish notify =>
    split
    · exact (setBus _ y).trans (post (by decide) (by decide) _ _ _ _)
    · exact setBus _ y

theorem advanceSteps (f : Nat) : ∀ (n : Nat) (mark : Option Nat) (a : Nat) (y : Yard), y.frost = true →
    y.FrostFrame (y.advanceSteps e f n mark a)
  | 0, _, _, y, _ => planFault _ _ y
  | n + 1, mark, a, y, frost => by
    unfold Yard.advanceSteps
    split
    · exact refl y
    split
    · exact planFault _ _ y
    split
    · exact planFault _ _ y
    · next b _ _ _ st _ =>
      have executed : y.FrostFrame ((y.cursorAt f a).execStep e b a mark st).1 := (setBus _ y).trans (execStep b a mark st frost)
      unfold Yard.cursorAt at executed
      split
      · exact planFault _ _ y
      · split
        · next stepped =>
          rw [stepped] at executed
          exact executed.trans (advanceSteps f n none _ _ (executed.frost.trans frost))
        · next stepped =>
          rw [stepped] at executed
          exact executed

/-! ### A wash step ended by frost -/

theorem endWashStep (residue : Nat) (place : Option Place) (y : Yard) : y.FrostFrame (y.endWashStep e f residue place) := by
  unfold Yard.endWashStep
  split
  · exact refl y
  · exact ((setBus _ y).trans (freeTurn _)).trans (post (by decide) (by decide) _ _ _ _)

theorem frostEnd (frost : y.frost = true) : y.FrostFrame (y.frostEnd e f) := by
  rw [Yard.frostEnd_eq]
  split
  · exact refl y
  · split
    · exact (setBus _ y).trans (advanceSteps f _ _ _ _ frost)
    · exact refl y

theorem frostWash (residue : Nat) (place : Option Place) (frost : y.frost = true) :
    y.FrostFrame (y.frostWash e f residue place) :=
  (endWashStep residue place y).trans (frostEnd ((endWashStep residue place y).frost.trans frost))

/-! ### A call withdrawn -/

theorem releaseClaim (reason : ReleaseReason) (y : Yard) : y.FrostFrame (y.releaseClaim f reason) := by
  unfold Yard.releaseClaim
  split
  · next l _ =>
    exact (berths (kinds := []) (by simp) (by simp) ((Yard.Berths.setLane _ _ _ y).trans (.updateSign _ l.number _))).trans
      (same rfl rfl rfl rfl rfl rfl rfl)
  · exact refl y

theorem withdrawCall (p : PointId) (y : Yard) : y.FrostFrame (y.withdrawCall p) := by
  have wanted (z : Yard) : z.FrostFrame (z.wantPoint p .clearCall) := by
    unfold Yard.wantPoint
    repeat' split
    all_goals exact same rfl rfl rfl rfl rfl rfl rfl
  have freed (z : Yard) : z.FrostFrame (z.freePoint p) := by
    unfold Yard.freePoint Yard.vacatePoint
    repeat' split
    all_goals exact same rfl rfl rfl rfl rfl rfl rfl
  exact ((same rfl rfl rfl rfl rfl rfl rfl : y.FrostFrame (y.setPoint p _)).trans (wanted _)).trans (freed _)

theorem callWithdrawn (p : PointId) (f : Nat) (y : Yard) : y.FrostFrame
    (((y.setPoint p (fun q => { q with callTimer := none })).releaseClaim f .call).withdrawCall p) :=
  ((same rfl rfl rfl rfl rfl rfl rfl : y.FrostFrame (y.setPoint p _)).trans (releaseClaim _ _)).trans (withdrawCall p _)

/-! ### The walk of the WASH queue -/

theorem frostEntry (t : PoolEntry) (frost : y.frost = true) : y.FrostFrame (y.frostEntry e t) := by
  unfold Yard.frostEntry
  split
  · exact frostWash _ _ frost
  · next p _ =>
    have withdrawn := callWithdrawn p t.bus y
    exact withdrawn.trans (frostWash _ _ (withdrawn.frost.trans frost))
  · exact refl y

theorem walk : ∀ (entries : List PoolEntry) (y : Yard), y.frost = true → y.FrostFrame (entries.foldl (Yard.frostEntry e) y)
  | [], y, _ => refl y
  | t :: entries, _, frost =>
    have met := frostEntry t frost
    met.trans (walk entries _ (met.frost.trans frost))

end Yard.FrostFrame

/-! ### What the walk leaves in the WASH queue -/

/-- A wash step's end frees every entry of the bus (R85). -/
theorem Yard.endWashStep_frees (residue : Nat) (place : Option Place) (y : Yard) :
    ∀ t ∈ (y.endWashStep e f residue place).washQueue, t.bus ≠ f := by
  unfold Yard.endWashStep
  split
  · next absent =>
    have others : ∀ t ∈ y.pool, t.bus ≠ f := by simpa [Yard.turn?] using absent
    exact fun t ht => others t (List.mem_append_right _ ht)
  · intro t ht
    simpa using (List.mem_filter.1 ht).2

theorem Yard.frostWash_frees (residue : Nat) (place : Option Place) (frost : y.frost = true) :
    ∀ t ∈ (y.frostWash e f residue place).washQueue, t.bus ≠ f := fun t ht =>
  have kept := (Yard.FrostFrame.endWashStep (e := e) (f := f) residue place y).frost
  Yard.endWashStep_frees residue place y t ((Yard.FrostFrame.frostEnd (kept.trans frost)).washQueue ht)

/-- An entry that is not in SERVING is freed when the walk meets it (R91 step 2). -/
theorem Yard.frostEntry_frees (t : PoolEntry) (frost : y.frost = true) (waits : ∀ p, t.status ≠ .serving p) :
    ∀ u ∈ (y.frostEntry e t).washQueue, u.bus ≠ t.bus := by
  unfold Yard.frostEntry
  split
  · exact Yard.frostWash_frees _ _ frost
  · next p _ => exact Yard.frostWash_frees _ _ ((Yard.FrostFrame.callWithdrawn p t.bus y).frost.trans frost)
  · next p serving => exact absurd serving (waits p)

/-- Of the entries walked, those in SERVING alone still stand. -/
theorem Yard.frostWalk_leaves {entries : List PoolEntry} {t : PoolEntry} (frost : y.frost = true) (walked : t ∈ entries)
    (stands : t ∈ (entries.foldl (Yard.frostEntry e) y).washQueue) : ∃ p, t.status = .serving p := by
  induction entries generalizing y with
  | nil => exact absurd walked List.not_mem_nil
  | cons u entries ih =>
    have met := (Yard.FrostFrame.frostEntry (e := e) u frost).frost.trans frost
    rcases List.mem_cons.1 walked with rfl | later
    · by_contra waits
      have kept := (Yard.FrostFrame.walk entries _ met).washQueue stands
      exact Yard.frostEntry_frees t frost (not_exists.1 waits) t kept rfl
    · exact ih met later stands

/-! ### The lanes in FREE and in FROZEN -/

/-- Out of frost a freed point is CLOSED if close pending, and else FREE with a selection event (R92). -/
theorem Point.freed_thawed (q : Point) :
    q.freed false =
      if q.closePending then q.closedByHost
      else { q.vacated with state := .free, downCause := none, selection := true } := by
  simp [Point.freed]

/-- After a FROST_SET on no wash lane is FREE (R91 step 3). -/
theorem Yard.frostOn_noneFree (e : Env) (y : Yard) :
    ∀ q ∈ (y.frostOn e).points, q.id.isWash = true → q.state ≠ .free := by
  intro q hq
  obtain ⟨r, -, rfl⟩ := List.mem_map.1 hq
  split
  · exact fun _ => nofun
  · next other => exact fun wash free => other ⟨wash, free⟩

end

/-- Settles O36: the statement's walk is the model's, entry by entry; what the walk keeps is `Yard.FrostFrame.walk`, and that it frees
every entry it ends `Yard.frostWalk_leaves`. -/
theorem frostSet : Obligations.FrostSet := by
  intro s tag setting running body e y vacant ended frosted taken
  have mode : inRunning s.mode = true := by rw [running]; rfl
  have settingAt : byteAt body 2 = setting.toNat := rfl
  have setOn {t : State} {r : Reply} (on : setting.toNat ≠ 0) (act : setFrostOn body s = (t, r)) :
      exec .frostSetOn s = .next (t.reply body r.result r.data) :=
    exec_acts rfl taken (ofKindElse_request (k := 0x24) (v := 0) (by decide) on) rfl mode act
  have setOff {t : State} {r : Reply} (off : setting.toNat = 0) (act : setFrostOff body s = (t, r)) :
      exec .frostSetOff s = .next (t.reply body r.result r.data) :=
    exec_acts rfl taken (beq_iff_eq.2 (settingAt.trans off)) rfl mode act
  have turnedOn {z : Yard} (on : setting.toNat = 1) (set : (if y.frost then y else y.frostOn e) = z) :
      Taken .frostSetOn s (s.withYard z) body [] :=
    setOn (r := .ok []) (by omega) ((if_neg (not_not.2 (settingAt.trans on))).trans (congrArg s.done set))
  have turnedOff {z : Yard} (off : setting.toNat = 0) (set : (if y.frost then y.frostOff else y) = z) :
      Taken .frostSetOff s (s.withYard z) body [] := setOff (r := .ok []) off (congrArg s.done set)
  refine ⟨fun other => setOn (r := .refuse .badValue) (by omega) (if_pos (by rw [settingAt]; omega)),
    fun on frost => turnedOn on (if_pos frost), fun off thawed => turnedOff off (by rw [thawed]; rfl), fun on thawed => ?_,
    fun off frost => turnedOff off ((if_pos frost).trans ?_)⟩
  · have met : frosted = Yard.frostEntry e := by
      funext z t
      have ends (f residue : Nat) (place : Option Place) (z : Yard) : ended f residue place z = z.frostWash e f residue place :=
        (Yard.frostEnd_eq e f (z.endWashStep e f residue place)).symm
      cases status : t.status <;> simp only [frosted, Yard.frostEntry, status, ends]
    have frame := Yard.FrostFrame.walk (e := e) y.washQueue { y with frost := true } rfl
    refine ⟨y.frostOn e, turnedOn on (by rw [thawed]; rfl), by rw [met]; rfl, frame.frost, Yard.frostOn_noneFree e y,
      fun t ht => ⟨frame.washQueue ht, Yard.frostWalk_leaves rfl (frame.washQueue ht) ht⟩, frame.silent,
      frame.stations, frame.departures, frame.pullout, frame.inFlight⟩
  · simp only [y, Yard.frostOff, Point.freed_thawed]
    rfl

end Sys2Proof.Machine
end

section
/-!
PROOFS. The sign of a lane and the claim on its exit (O40): what a wanted SIGN, a requested CONFIRM_FRONT, a recomputed content and a
command taken for sending do to the lane's one unsent command.
-/
namespace Sys2Proof.Machine

section

variable {y : Yard} {n : Nat} {l : Lane} {c : LineCommand}

/-- A changed lane record is found as changed. -/
theorem Yard.lane_setLane_found (found : y.lane? n = some l) (g : Lane → Lane) (keeps : ∀ l, (g l).number = l.number) :
    (y.setLane n g).lane? n = some (g l) := by
  rw [Yard.lane_setLane _ _ _ keeps, if_pos rfl, found]
  rfl

/-! ### The one unsent command -/

/-- A SIGN wanted with no command unsent is queued (R117). -/
theorem Yard.wantSign_queued (found : y.lane? n = some l) (free : y.unsent? (.lane n) = none) :
    y.wantSign n = y.queueCommand (.lane n) l.station (.sign l.sign) := by
  simp only [Yard.wantSign, found, free]

/-- A SIGN wanted behind an unsent SIGN takes its place in the queue (R117). -/
theorem Yard.wantSign_replaced {content : SignContent} (found : y.lane? n = some l) (unsent : y.unsent? (.lane n) = some c)
    (sign : c.order = .sign content) : y.wantSign n =
      { y with
        cmdQueue := y.cmdQueue.map (fun c => if c.owner = .lane n then { c with order := .sign l.sign } else c) } := by
  obtain ⟨owner, station, order⟩ := c
  cases sign
  simp only [Yard.wantSign, found, unsent]

/-- A SIGN wanted behind an unsent CONFIRM_FRONT is pending (R117). -/
theorem Yard.wantSign_pending (found : y.lane? n = some l) (unsent : y.unsent? (.lane n) = some c)
    (confirm : c.order = .confirmFront) : y.wantSign n = y.setLane n (fun l => { l with signPending := true }) := by
  obtain ⟨owner, station, order⟩ := c
  cases confirm
  simp only [Yard.wantSign, found, unsent]

/-- A recomputed content that is the one before changes nothing (R117). -/
theorem Yard.updateSign_same (found : y.lane? n = some l) (same : l.content = l.sign) : y.updateSign n = y := by
  simp only [Yard.updateSign, found, if_pos same]

/-- A recomputed content that differs is written, and a SIGN wanted (R117). -/
theorem Yard.updateSign_changed (found : y.lane? n = some l) (changed : l.content ≠ l.sign) :
    y.updateSign n = (y.setLane n (fun l => { l with sign := l.content })).wantSign n := by
  simp only [Yard.updateSign, found, if_neg changed]

/-- A CONFIRM_FRONT requested with no command unsent is queued (R117). -/
theorem Yard.wantConfirm_queued (found : y.lane? n = some l) (free : y.unsent? (.lane n) = none) :
    y.wantConfirm n = y.queueCommand (.lane n) l.station .confirmFront := by
  simp only [Yard.wantConfirm, found, free]
  rfl

/-- A CONFIRM_FRONT requested behind an unsent command is pending (R117). -/
theorem Yard.wantConfirm_pending (found : y.lane? n = some l) (unsent : y.unsent? (.lane n) = some c) :
    y.wantConfirm n = y.setLane n (fun l => { l with confirmPending := true }) := by
  simp only [Yard.wantConfirm, found, unsent]
  rfl

/-- What follows when the lane's unsent command is taken for sending: a pending CONFIRM_FRONT before a pending SIGN (R117). -/
theorem Yard.takenForSending_eq (found : y.lane? n = some l) : y.takenForSending n =
    if l.confirmPending then
      (y.setLane n (fun l => { l with confirmPending := false })).queueCommand (.lane n) l.station .confirmFront
    else if l.signPending then
      (y.setLane n (fun l => { l with signPending := false })).queueCommand (.lane n) l.station (.sign l.sign)
    else y := by
  simp only [Yard.takenForSending, found]

/-! ### Claims -/

/-- R113's conditions for a claim. -/
theorem Lane.claimable_iff (l : Lane) (f : Nat) : l.claimable f = true ↔
    l.exitEnd = some f ∧ l.release = none ∧ l.hold = 0 ∧ l.mismatch = false ∧ l.dark = false := by
  simp [Lane.claimable, and_assoc]

/-- A claim that no lane's release field holds is not there to be released. -/
theorem Yard.releaseClaim_absent {f : Nat} {reason : ReleaseReason} (absent : ∀ l ∈ y.lanes, l.release ≠ some (f, reason)) :
    y.releaseClaim f reason = y := by
  have unheld : y.lanes.find? (fun l => l.release == some (f, reason)) = none :=
    List.find?_eq_none.2 (fun l hl => by simpa using absent l hl)
  simp only [Yard.releaseClaim, unheld]

end

/-- Settles O40: each operation by the lane's unsent command, read on the record that carries the new content. -/
theorem signContentFollowsTheLane : Obligations.SignContentFollowsTheLane := by
  intro y n l found y1
  have written : y1.lane? n = some { l with sign := l.content } :=
    Yard.lane_setLane_found found (fun l => { l with sign := l.content }) (by intro; rfl)
  refine ⟨rfl, Yard.updateSign_same found, fun changed => ?_, fun free => ?_, fun c unsent => ?_, fun confirm => ?_,
    fun confirm sign => ?_, fun confirm sign => ?_, Lane.claimable_iff l, fun _ _ => rfl, fun f reason held => ?_,
    fun f reason => Yard.releaseClaim_absent⟩
  · rw [Yard.updateSign_changed found changed]
    exact ⟨Yard.wantSign_queued written, fun c content unsent sign => Yard.wantSign_replaced written unsent sign,
      fun c unsent confirm => Yard.wantSign_pending written unsent confirm⟩
  · exact ⟨Yard.wantSign_queued found free, Yard.wantConfirm_queued found free⟩
  · exact ⟨Yard.wantConfirm_pending found unsent, fun content => Yard.wantSign_replaced found unsent,
      Yard.wantSign_pending found unsent⟩
  · rw [Yard.takenForSending_eq found, if_pos confirm]
  · rw [Yard.takenForSending_eq found, confirm, sign]
    rfl
  · rw [Yard.takenForSending_eq found, confirm, sign]
    rfl
  · simp only [Yard.releaseClaim, held, Yard.lane_number found]
    rfl

end Sys2Proof.Machine
end

section
/-!
PROOFS. The requests that name a lane (O21, O39) and a SHUNT (O43): the checks they share, what a query replies, holds, and the claim, the
marker and the reservation of a shunt.
-/
namespace Sys2Proof.Machine

section

variable {act : Lane → List Byte → State → State × Reply} {at_ : Nat} {b : List Byte} {s : State} {l : Lane}

/-! ### The checks of a request that names a lane -/

/-- A lane number in its range (R114). -/
theorem laneOk_iff (n : Nat) : laneOk n = true ↔ 1 ≤ n ∧ n ≤ 24 := by simp [laneOk]

/-- A lane number out of its range (R114). -/
theorem onLane_out (out : byteAt b at_ < 1 ∨ 24 < byteAt b at_) : onLane at_ act b s = (s, .refuse .badValue) := by
  refine if_pos ?_
  rw [← Bool.not_eq_true, laneOk_iff]
  omega

/-- A lane that the layout does not have (R114). -/
theorem onLane_unknown (low : 1 ≤ byteAt b at_) (high : byteAt b at_ ≤ 24) (unknown : s.yard.lane? (byteAt b at_) = none) :
    onLane at_ act b s = (s, .refuse .notFound) := by
  simp only [onLane, (laneOk_iff _).2 ⟨low, high⟩, unknown]
  rfl

/-- A lane of the layout is acted on. -/
theorem onLane_known (low : 1 ≤ byteAt b at_) (high : byteAt b at_ ≤ 24) (known : s.yard.lane? (byteAt b at_) = some l) :
    onLane at_ act b s = act l b s := by
  simp only [onLane, (laneOk_iff _).2 ⟨low, high⟩, known]
  rfl

end

/-- A kind that RUNNING accepts (Table 1-2). -/
theorem inRunning_eq {m : YardMode} (h : m = .running) : inRunning m = true := by
  rw [h]
  rfl

/-- A request that its yard mode does not accept (R183 stage 3). -/
theorem exec_wrongMode {c : Instr} {q : Request} (row : requestOf c = some q) {s : State} {b : List Byte} (taken : s.Takes b)
    (own : q.takes b = true) (length : q.length b = true) (mode : q.mode s.mode = false) :
    Refused c s b .wrongMode := by
  rw [Refused, exec_of_requestOf row, Request.serve_own taken own, Request.result, if_pos length, Request.own, mode]
  rfl

/-- What a request that names lane `n` answers, before what it does at a lane of the layout (R114). -/
structure NamesLane (c : Instr) (s : State) (b : List Byte) (n : Nat) (act : Lane → List Byte → State → State × Reply) :
    Prop where
  wrongMode : s.mode = .unconfigured → Refused c s b .wrongMode
  badValue : s.mode = .running → n < 1 ∨ 24 < n → Refused c s b .badValue
  notFound : s.mode = .running → 1 ≤ n → n ≤ 24 → s.yard.lane? n = none → Refused c s b .notFound
  acts : ∀ {l t r}, s.mode = .running → 1 ≤ n → n ≤ 24 → s.yard.lane? n = some l → act l b s = (t, r) →
    exec c s = .next (t.reply b r.result r.data)

/-- The rows whose lane stands first in the body. -/
theorem NamesLane.row {c : Instr} {q : Request} {act : Lane → List Byte → State → State × Reply} (row : requestOf c = some q)
    (action : q.act = onLane 2 act) (accepts : q.mode = inRunning) {s : State} {b : List Byte} (taken : s.Takes b)
    (own : q.takes b = true) (length : q.length b = true) : NamesLane c s b (byteAt b 2) act := by
  have answered {t : State} {r : Reply} (running : s.mode = .running) (gives : onLane 2 act b s = (t, r)) :
      exec c s = .next (t.reply b r.result r.data) :=
    exec_acts row taken own length (by rw [accepts, inRunning_eq running]) (by rw [action, gives])
  refine ⟨fun mode => exec_wrongMode row taken own length ?_, fun running out => answered running (onLane_out out),
    fun running low high unknown => answered running (onLane_unknown low high unknown),
    fun running low high known gives => answered running ((onLane_known low high known).trans gives)⟩
  rw [accepts, mode]
  rfl

/-! ### LANE_QUERY -/

theorem LaneKind.code_eq (k : LaneKind) : k.code = if k = .through then 0 else 1 := by cases k <;> rfl

theorem ReservationKind.code_eq (k : ReservationKind) : k.code = if k = .park then 1 else 2 := by cases k <;> rfl

/-- A sign content in a LANE reply (R120). -/
theorem SignContent.bytes_eq (c : SignContent) : c.bytes =
    u8 (match c.mode with | .open => 0 | .hold => 1 | .closed => 2) ++ u16 c.expected1 ++ u16 c.expected2 ++
      u16 c.expected3 ++ u16 c.release := by
  obtain ⟨mode, _, _, _, _⟩ := c
  cases mode <;> rfl

/-- An occupant in a LANE reply (R120). -/
theorem Yard.occupantBytes_eq (y : Yard) (f : Nat) : y.occupantBytes f =
    u16 f ++ u8 (((y.bus? f).map (fun b => if b.length = .standard then 0 else 1)).getD 0) ++ u16 (y.key f) := by
  unfold Yard.occupantBytes
  simp only [BusLength.code_eq]

/-- A reservation in a LANE reply (R120). -/
theorem Reservation.bytes_eq (r : Reservation) : r.bytes =
    u16 r.bus ++ u8 r.places ++ u8 (if r.kind = .park then 1 else 2) ++ u16 (r.entryTimer.getD 0) ++ u8 r.lapses := by
  unfold Reservation.bytes
  rw [ReservationKind.code_eq]
  rfl

/-- A list of mapped items: its count, then the items. -/
theorem listBytes_map {α : Type} (item : α → List Byte) (l : List α) :
    listBytes (l.map item) = u8 l.length ++ (l.map item).flatten := by
  rw [listBytes, List.length_map]

/-- Settles O21: the two forms by their rows, the fields of the replies by their codes. -/
theorem lanesQueried : Obligations.LanesQueried := by
  intro s tag running y flag sign
  have mode : inRunning s.mode = true := inRunning_eq running
  refine ⟨?_, ?_, ?_⟩
  · intro number body taken
    have answered {t : State} {r : Reply}
        (act : onLane 3 (fun l _ s => replyOnly (.ok (s.yard.laneBytes l)) s) body s = (t, r)) :
        exec .laneQueryLane s = .next (t.reply body r.result r.data) := exec_acts rfl taken rfl rfl mode act
    refine ⟨fun out => answered (onLane_out (b := body) (at_ := 3) out),
      fun low high unknown => answered (onLane_unknown (b := body) (at_ := 3) low high unknown),
      fun l low high known => (answered (t := s) (r := .ok (y.laneBytes l)) (onLane_known (b := body) (at_ := 3) low high known)).trans ?_⟩
    refine congrArg (fun data => Host.Outcome.next (s.reply body .ok data)) ?_
    have signed (c : SignContent) : c.bytes = sign c := SignContent.bytes_eq c
    show y.laneBytes l = _
    unfold Yard.laneBytes
    simp only [LaneKind.code_eq, listBytes_map, funext y.occupantBytes_eq, funext Reservation.bytes_eq, signed]
    cases l.release <;> cases l.lastSign <;> simp only [releaseBytes, signBytes, signed] <;> rfl
  · intro start body listed taken
    have answered {t : State} {r : Reply} (act : queryWaits body s = (t, r)) :
        exec .laneQueryWaits s = .next (t.reply body r.result r.data) := exec_acts rfl taken rfl rfl mode act
    refine ⟨fun past => answered (r := .refuse .badValue) (if_neg (Nat.not_le.2 past)),
      fun within => (answered (r := .ok (y.waitsBytes start.toNat)) (if_pos within)).trans ?_⟩
    refine congrArg (fun data => Host.Outcome.next (s.reply body .ok data)) ?_
    rw [Yard.waitsBytes, listBytes_map, ← List.append_assoc]
    rfl
  · intro form field body other taken
    have unknown : form.toNat ≠ 1 ∧ form.toNat ≠ 0 := by omega
    have act : queryLane body s = (s, .refuse .badValue) := if_pos unknown.2
    exact exec_acts (c := .laneQueryLane) rfl taken (ofKindElse_request (k := 0x28) (by decide) unknown.1) rfl mode act

/-! ### LANE_HOLD and LANE_UNHOLD -/

/-- A lane changed and its sign updated: what the record is then. -/
theorem Yard.changeLane_lane {n : Nat} {l : Lane} {y : Yard} (known : y.lane? n = some l) (g : Lane → Lane)
    (keeps : ∀ l, (g l).number = l.number) : ∃ pending,
      ((y.setLane n g).updateSign n).lane? n = some { g l with sign := (g l).content, signPending := pending } :=
  Yard.updateSign_lane (Yard.lane_setLane_found known g keeps)

/-- Settles O39: both rows by the checks they share, the record by its sign update; the hold count bars use and claims. -/
theorem lanesHeld : Obligations.LanesHeld := by
  refine ⟨fun s tag number kind c row => ?_, fun y b l f held => ⟨?_, ?_⟩⟩
  · intro body n e y held taken
    have stands (l : Lane) (known : y.lane? n = some l) (g : Nat → Nat) : ∃ pending, (held g).lane? n =
        some { l with hold := g l.hold, sign := ({ l with hold := g l.hold } : Lane).content, signPending := pending } :=
      Yard.changeLane_lane known (fun l => { l with hold := g l.hold }) (by intro; rfl)
    rcases List.mem_pair.1 row with ⟨rfl, rfl⟩ | ⟨rfl, rfl⟩
    · have checks := NamesLane.row (c := .laneHold) rfl rfl rfl taken rfl rfl
      refine ⟨checks.wrongMode, checks.badValue, checks.notFound, fun l running low high known => ?_⟩
      have answered {t : State} {r : Reply} := checks.acts (t := t) (r := r) running low high known
      have same : l.number = n := Yard.lane_number known
      refine ⟨fun _ full => answered (r := .refuse .wrongState) (if_pos full),
        fun _ room => answered (r := .ok []) ((if_neg (Nat.not_le.2 room)).trans ?_), nofun, nofun, nofun, stands l known⟩
      rw [same]
      rfl
    · have checks := NamesLane.row (c := .laneUnhold) rfl rfl rfl taken rfl rfl
      refine ⟨checks.wrongMode, checks.badValue, checks.notFound, fun l running low high known => ?_⟩
      have answered {t : State} {r : Reply} := checks.acts (t := t) (r := r) running low high known
      have same : l.number = n := Yard.lane_number known
      refine ⟨nofun, nofun, fun _ free => answered (r := .refuse .wrongState) (if_pos free),
        fun _ last => answered (r := .ok []) ((if_neg (by omega)).trans ?_),
        fun _ more => answered (r := .ok []) ((if_neg (by omega)).trans ?_), stands l known⟩
      · rw [same]
        exact congrArg s.done (if_pos last)
      · have stays : l.hold ≠ 1 := by omega
        rw [same]
        exact congrArg s.done (if_neg stays)
  · rw [← Bool.not_eq_true, Yard.usable_iff]
    rintro ⟨-, unheld, -⟩
    omega
  · rw [← Bool.not_eq_true, Lane.claimable_iff]
    rintro ⟨-, -, unheld, -⟩
    omega

/-! ### SHUNT -/

section

variable {e : Env} {y : Yard} {b : Bus} {l target : Lane} {m n : Nat}

/-- The lane record that a bus stands in. -/
theorem Yard.laneOf_iff (y : Yard) (pos : Position) (l : Lane) :
    pos.lane?.bind y.lane? = some l ↔ ∃ m, pos = .inLane m ∧ y.lane? m = some l := by
  cases pos <;> simp [Position.lane?]

/-- The lane a SHUNT leaves from: the bus, its plan idle, at the exit end of another lane that takes its claim, the target usable
(R118). -/
theorem Yard.shuntSource_iff : y.shuntSource b target = some m ↔
    (b.wait = .noPlan ∨ b.wait = .ended) ∧ y.usable b target = true ∧
      ∃ l, b.position = .inLane m ∧ y.lane? m = some l ∧ m ≠ target.number ∧ l.claimable b.fleet = true := by
  unfold Yard.shuntSource
  cases stands : b.position.lane?.bind y.lane? with
  | none =>
    have nowhere (l : Lane) : ¬ ∃ m, b.position = .inLane m ∧ y.lane? m = some l := by
      rw [← Yard.laneOf_iff, stands]
      exact nofun
    refine ⟨nofun, fun ⟨_, _, l, position, found, _⟩ => absurd ⟨m, position, found⟩ (nowhere l)⟩
  | some l =>
    obtain ⟨k, position, found⟩ := (Yard.laneOf_iff y b.position l).1 stands
    have number : l.number = k := Yard.lane_number found
    simp only [position, number, Bool.and_eq_true, Bool.or_eq_true, beq_iff_eq, bne_iff_ne, Option.ite_none_right_eq_some,
      Option.some.injEq, Position.inLane.injEq]
    constructor
    · rintro ⟨⟨⟨⟨idle, other⟩, claimable⟩, usable⟩, rfl⟩
      exact ⟨idle, usable, l, rfl, found, other, claimable⟩
    · rintro ⟨idle, usable, l', rfl, found', other, claimable⟩
      cases found.symm.trans found'
      exact ⟨⟨⟨⟨idle, other⟩, claimable⟩, usable⟩, rfl⟩

/-- From `y` to `z` a SHUNT of the bus from lane `m` to lane `n` is taken: the claim, the marker and the reservation, and nothing else
(R118). -/
structure Yard.ShuntTaken (e : Env) (b : Bus) (m n : Nat) (target : Lane) (y z : Yard) : Prop where
  claim : (z.lane? m).map Lane.release = some (some (b.fleet, .shunt))
  reservation : (z.lane? n).map Lane.reservations =
    some (target.reservations ++
      [{ bus := b.fleet, places := b.length.places, kind := .shunt, entryTimer := some (e.params.entryWait * 60), lapses := 0 }])
  marker : z.bus? b.fleet = some { b with wait := .entry, shuntMarker := some b.wait }
  buses : ∀ g, g ≠ b.fleet → z.bus? g = y.bus? g
  lanes : ∀ k, k ≠ m → k ≠ n → z.lane? k = y.lane? k
  notices : z.notices = y.notices.post e.clock .berthAssigned b.fleet (some (.lane n)) 4 0
  rest : z = { y with fleet := z.fleet, lanes := z.lanes, cmdQueue := z.cmdQueue, notices := z.notices }

/-- A change of one lane and its commands leaves the bus records as they are. -/
theorem Yard.LaneOnly.fleet {z : Yard} (h : y.LaneOnly n z) : z.fleet = y.fleet := by rw [h.rest]

theorem Yard.LaneOnly.bus {z : Yard} (h : y.LaneOnly n z) (f : Nat) : z.bus? f = y.bus? f := by
  unfold Yard.bus?
  rw [h.fleet]

/-- What a SHUNT taken leaves (R118). -/
theorem Yard.startShunt_taken (e : Env) (known : y.bus? b.fleet = some b) (stands : y.lane? m = some l)
    (there : y.lane? n = some target) (other : m ≠ n) : Yard.ShuntTaken e b m n target y (y.startShunt e b m n) := by
  let f := b.fleet
  let claimed := y.writeClaim m f .shunt
  let marked := claimed.setBus f (fun b => { b with shuntMarker := some b.wait })
  let r : Reservation :=
    { bus := f, places := b.length.places, kind := .shunt, entryTimer := some (e.params.entryWait * 60), lapses := 0 }
  let reserved := marked.setLane n (fun l => { l with reservations := l.reservations ++ [r] })
  let waiting := reserved.setWait f .entry
  let signed := waiting.updateSign n
  have shunted : y.startShunt e b m n = signed.post e .berthAssigned f (some (.lane n)) 4 0 := rfl
  have claims : y.LaneOnly m claimed := .writeClaim m f .shunt y
  have reserves : marked.LaneOnly n reserved := .setLane n _ (by intro; rfl) marked
  have signs : waiting.LaneOnly n signed := .updateSign n waiting
  have claimedLane : ∃ pending, claimed.lane? m = some _ := Yard.changeLane_lane stands (fun l => { l with release := some (f, .shunt) }) (by intro; rfl)
  have reservedLane : reserved.lane? n = some { target with reservations := target.reservations ++ [r] } :=
    Yard.lane_setLane_found ((claims.others n other.symm).trans there)
      (fun l => { l with reservations := l.reservations ++ [r] }) (by intro; rfl)
  have signedLane := Yard.updateSign_lane (y := waiting) reservedLane
  have elsewhere (k : Nat) (hk : k ≠ n) : signed.lane? k = claimed.lane? k := (signs.others k hk).trans (reserves.others k hk)
  have markedBus (g : Nat) : marked.bus? g =
      if g = f then (y.bus? g).map (fun b => { b with shuntMarker := some b.wait }) else y.bus? g := by
    rw [← claims.bus g]
    exact Yard.bus_setBus claimed f _ (by intro; rfl) g
  have signedBus (g : Nat) : signed.bus? g =
      if g = f then (marked.bus? g).map (fun b => { b with wait := .entry }) else marked.bus? g :=
    (signs.bus g).trans (Yard.bus_setWait reserved f .entry g)
  have rest : signed = { y with fleet := signed.fleet, lanes := signed.lanes, cmdQueue := signed.cmdQueue } := by
    rw [signs.fleet]
    exact signs.rest.trans (congrArg
      (fun z : Yard => { z with fleet := waiting.fleet, lanes := signed.lanes, cmdQueue := signed.cmdQueue }) claims.rest)
  rw [shunted]
  refine ⟨?_, ?_, ?_, fun g hg => ?_, fun k hm hn => (elsewhere k hn).trans (claims.others k hm), ?_, ?_⟩
  · obtain ⟨pending, found⟩ := claimedLane
    rw [Yard.lane_post, elsewhere m other, found]
    rfl
  · obtain ⟨pending, found⟩ := signedLane
    rw [Yard.lane_post, found]
    rfl
  · rw [Yard.bus_post, signedBus, if_pos rfl, markedBus, if_pos rfl, known]
    rfl
  · rw [Yard.bus_post, signedBus, if_neg hg, markedBus, if_neg hg]
  · have quiet : signed.notices = y.notices := by rw [rest]
    exact congrArg (fun u : Notices => u.post e.clock .berthAssigned f (some (.lane n)) 4 0) quiet
  · exact congrArg
      (fun z : Yard => { z with notices := signed.notices.post e.clock .berthAssigned f (some (.lane n)) 4 0 }) rest

end

/-- Settles O43: the source lane's conditions are the statement's, and what is left is that of a shunt taken. -/
theorem shunted : Obligations.Shunted := by
  intro s tag number fleet running body f n e y inRange taken
  have fleetAt : wordAt body 2 = f := word_bytes fleet
  have answered {t : State} {r : Reply} (act : shuntBus body s = (t, r)) :
      exec .shunt s = .next (t.reply body r.result r.data) := exec_acts rfl taken rfl rfl (inRunning_eq running) act
  have ranged : ¬ (fleetOk f = false ∨ laneOk n = false) ↔ inRange := by
    rw [not_or, Bool.not_eq_false, Bool.not_eq_false, fleetOk_iff, laneOk_iff]
  unfold shuntBus at answered
  simp only [fleetAt] at answered
  refine ⟨fun out => answered (r := .refuse .badValue) (if_pos ?_), fun valid absent => ?_,
    fun b target valid known there => ?_⟩
  · by_contra range
    exact out (ranged.1 range)
  · refine answered (r := .refuse .notFound) ((if_neg (ranged.2 valid)).trans ?_)
    split
    · next b target known there =>
      have unknown : y.bus? f ≠ none ∧ y.lane? n ≠ none :=
        ⟨by rw [show y.bus? f = some b from known]; exact nofun, by rw [show y.lane? n = some target from there]; exact nofun⟩
      exact absurd absent (not_or.2 unknown)
    · rfl
  · intro usable leaves may
    have here : b.fleet = f := Yard.bus_fleet known
    have number : target.number = n := Yard.lane_number there
    have usable_iff : y.usable b target = true ↔ usable := Yard.usable_iff y b target
    have source (m : Nat) : y.shuntSource b target = some m ↔
        (b.wait = .noPlan ∨ b.wait = .ended) ∧ usable ∧ ∃ l, leaves m l := by
      rw [Yard.shuntSource_iff, usable_iff, here, number]
    have passed {t : State} {r : Reply}
        (act : (match y.shuntSource b target with
          | some source => s.done (y.startShunt e b source n)
          | none => replyOnly (.refuse .wrongState) s) = (t, r)) : exec .shunt s = .next (t.reply body r.result r.data) := by
      refine answered ((if_neg (ranged.2 valid)).trans ?_)
      rw [show s.yard.bus? f = some b from known, show s.yard.lane? (byteAt body 4) = some target from there]
      exact act
    refine ⟨fun barred => passed (r := .refuse .wrongState) ?_, fun m l allowed from_ => ?_⟩
    · cases found : y.shuntSource b target with
      | none => rfl
      | some m =>
        obtain ⟨idle, usable, l, leaves⟩ := (source m).1 found
        exact absurd ⟨idle, usable, m, l, leaves⟩ barred
    · obtain ⟨idle, usable, -⟩ := allowed
      have found : y.shuntSource b target = some m := (source m).2 ⟨idle, usable, l, from_⟩
      obtain ⟨-, stands, other, -⟩ := from_
      have shunt := Yard.startShunt_taken e (b := b) (by rw [here]; exact known) stands there other
      rw [← here]
      exact ⟨y.startShunt e b m n, passed (r := .ok []) (by rw [found]; rfl), shunt.claim, shunt.reservation, shunt.marker,
        shunt.buses, shunt.lanes, shunt.notices, shunt.rest⟩

end Sys2Proof.Machine
end

section
/-!
PROOFS. The expiries of entry timers and release lapse timers (O45).
-/
namespace Sys2Proof.Machine

section

variable {e : Env} {y : Yard} {f n : Nat} {b : Bus} {r : Reservation}

/-- A dropped reservation leaves the bus records as they are. -/
theorem Yard.dropReservation_bus (n f g : Nat) (y : Yard) : (y.dropReservation n f).bus? g = y.bus? g :=
  (Yard.LaneOnly.dropReservation n f y).bus g

/-- A released claim leaves the bus records as they are. -/
theorem Yard.releaseClaim_bus (f g : Nat) (reason : ReleaseReason) (y : Yard) : (y.releaseClaim f reason).bus? g = y.bus? g := by
  unfold Yard.releaseClaim
  split
  · next l _ =>
    obtain ⟨z, only, cleared⟩ := Yard.clearRelease_rest l.number y
    rw [cleared, Yard.bus_raise, only.bus]
  · rfl

/-- An entry timer that does not run has no expiry (log 1). -/
theorem Yard.entryLapse_stopped (held : y.reservation? f = some (n, r)) (stopped : r.entryTimer = none) :
    y.entryLapse e f = y := by
  simp only [Yard.entryLapse, held, stopped]
  rfl

/-- "Reservation dropped" handed to a bus in ENTRY: a fresh advance at its cursor (R51). -/
theorem Yard.reservationDropped_entering (found : y.bus? f = some b) (entering : b.wait = .entry) (lapses : Nat) :
    y.reservationDropped e (f, lapses) = y.advanceSteps e f 16 (some lapses) (b.cursor.getD 0) := by
  simp only [Yard.reservationDropped, found, if_pos entering]
  rfl

/-- "Park timeout" handed to a bus in ENTRY: the plan fault of R50. -/
theorem Yard.parkTimeoutSignal_entering (found : y.bus? f = some b) (entering : b.wait = .entry) :
    y.parkTimeoutSignal e f = y.faulted e f .parkTimeout (b.cursor.getD 0) := by
  simp only [Yard.parkTimeoutSignal, found, if_pos entering]
  rfl

section

variable {left : Nat} (held : y.reservation? f = some (n, r)) (runs : r.entryTimer = some left) (found : y.bus? f = some b)
  (entering : b.wait = .entry)

include held runs found entering

/-- A PARK reservation lapses for the first time: its step is run again with the lapses count 1 (R108). -/
theorem Yard.entryLapse_first (park : r.kind = .park) (first : r.lapses = 0) : y.entryLapse e f =
    (((y.dropReservation n f).post e .entryLapsed f (some (.lane n)) 1 0).advanceSteps e f 16 (some 1)
      (b.cursor.getD 0)).rerunWaits e := by
  have still : ((y.dropReservation n f).post e .entryLapsed f (some (.lane n)) 1 0).bus? f = some b :=
    (Yard.dropReservation_bus n f f y).trans found
  rw [← Yard.reservationDropped_entering still entering]
  simp only [Yard.entryLapse, held, runs, park, first]
  rfl

/-- A PARK reservation lapses again: the fault PARK_TIMEOUT (R108). -/
theorem Yard.entryLapse_again (park : r.kind = .park) (again : r.lapses ≠ 0) : y.entryLapse e f =
    (((y.dropReservation n f).post e .entryLapsed f (some (.lane n)) 2 0).faulted e f .parkTimeout
      (b.cursor.getD 0)).rerunWaits e := by
  obtain ⟨lapses, more⟩ := Nat.exists_eq_succ_of_ne_zero again
  have still : ((y.dropReservation n f).post e .entryLapsed f (some (.lane n)) 2 0).bus? f = some b :=
    (Yard.dropReservation_bus n f f y).trans found
  rw [← Yard.parkTimeoutSignal_entering still entering]
  simp only [Yard.entryLapse, held, runs, park, more]
  rfl

/-- A SHUNT reservation lapses: the claim at its origin is released and the shunt ended (R108). -/
theorem Yard.entryLapse_shunt (shunt : r.kind = .shunt) : y.entryLapse e f =
    ((((y.dropReservation n f).post e .entryLapsed f (some (.lane n)) 3 0).releaseClaim f .shunt).setBus f (fun b =>
      { b with wait := b.shuntMarker.getD b.wait, shuntMarker := none })).rerunWaits e := by
  have still : (((y.dropReservation n f).post e .entryLapsed f (some (.lane n)) 3 0).releaseClaim f .shunt).bus? f = some b :=
    (Yard.releaseClaim_bus ..).trans ((Yard.dropReservation_bus n f f y).trans found)
  have ended := (Yard.shuntEnded_eq still).trans (if_pos entering)
  rw [← ended]
  simp only [Yard.entryLapse, held, runs, shunt]
  rfl

end

end

/-- A release lapse of an entry that is not RELEASED, or whose timer does not run, does nothing (log 1). -/
theorem Yard.releaseLapse_idle {e : Env} {y : Yard} {f : Nat} {d : Departure} (entry : y.departure? f = some d)
    (idle : d.state ≠ .released ∨ d.lapse = none) : y.releaseLapse e f = y := by
  have stopped : ¬ (d.state = .released ∧ d.lapse.isSome = true) := by
    rintro ⟨released, runs⟩
    rcases idle with other | none_
    · exact other released
    · rw [none_] at runs
      cases runs
  simp only [Yard.releaseLapse, entry, if_neg stopped]

/-- Settles O45: the reservation or the claim given back, then what the kind of the lapse asks. -/
theorem lapsesExpire : Obligations.LapsesExpire := by
  intro s f high e y
  have entered {z : Yard} (lapse : y.entryLapse e f = z) : exec (.entryTimerExpiry f) s = .next (s.withYard z) :=
    congrArg Host.Outcome.next ((State.yardEvent_high high _).trans (congrArg s.withYard lapse))
  have released {z : Yard} (lapse : y.releaseLapse e f = z) : exec (.releaseLapseExpiry f) s = .next (s.withYard z) :=
    congrArg Host.Outcome.next ((State.yardEvent_high high _).trans (congrArg s.withYard lapse))
  refine ⟨fun free => entered (z := y) ?_, fun n r held stopped => entered (Yard.entryLapse_stopped held stopped),
    fun absent => released (z := y) ?_, fun n r b held runs found entering => ?_, fun d entry => ⟨fun idle => released
      (Yard.releaseLapse_idle entry idle), fun state runs => ?_⟩⟩
  · simp only [Yard.entryLapse, free]
  · simp only [Yard.releaseLapse, absent]
  · obtain ⟨left, running⟩ := Option.isSome_iff_exists.1 runs
    exact ⟨fun park first => entered (Yard.entryLapse_first held running found entering park first),
      fun park again => entered (Yard.entryLapse_again held running found entering park again),
      fun shunt => entered (Yard.entryLapse_shunt held running found entering shunt)⟩
  · intro lane stands
    have place : stands = (y.bus? f).bind (fun b => b.position.lanePlace) := by
      dsimp only [stands]
      cases y.bus? f <;> rfl
    refine released ?_
    rw [place]
    simp only [Yard.releaseLapse, entry, if_pos (And.intro state runs)]
    rfl

end Sys2Proof.Machine
end

section
/-!
PROOFS. Lanes closed, opened and forced, and the reports of a lane's station (O41): the operations an ENTERED and an EXITED are made of,
each said once, then the reports in their rules' step order.
-/
namespace Sys2Proof.Machine

section

variable {e : Env} {y : Yard} {n f : Nat} {l : Lane}

/-! ### OCCUPANCY -/

/-- A place of a mask as the lane's force fields leave it (R111). -/
theorem Lane.forced_getLsbD (l : Lane) (mask : BitVec 12) {i : Nat} (place : i < 12) : (l.forced mask).getLsbD i =
    if l.forceMask.getLsbD i then l.forceValue.getLsbD i else mask.getLsbD i := by
  simp only [Lane.forced, BitVec.getLsbD_or, BitVec.getLsbD_and, BitVec.getLsbD_not, place, decide_true, Bool.true_and]
  cases l.forceMask.getLsbD i <;> simp

/-- The places of a mask that count as occupied (R111). -/
theorem countPlaces_forced (l : Lane) (mask : BitVec 12) : countPlaces (l.forced mask) =
    ((List.range 12).filter (fun i => if l.forceMask.getLsbD i then l.forceValue.getLsbD i else mask.getLsbD i)).length :=
  congrArg List.length (List.filter_congr fun _ hi => l.forced_getLsbD mask (List.mem_range.1 hi))

/-- OCCUPANCY by the count of its places (R111). -/
theorem Yard.occupancy_eq (found : y.lane? n = some l) (mask : BitVec 12) :
    let agreed := l.occupants.foldl (fun y f => y.reload e f) (y.clearMismatch n)
    let count := countPlaces (l.forced mask)
    y.occupancy e n mask =
      if count = y.occupied l then if l.mismatch then (agreed.rerunWaits e).raise else agreed
      else y.setMismatch e n 0 1 count := by
  simp only [Yard.occupancy, found]

/-! ### Flags, exits and lapses of a claim -/

/-- MISMATCH set, once (R111). -/
theorem Yard.setMismatch_eq (found : y.lane? n = some l) (fleet cause quantity : Nat) : y.setMismatch e n fleet cause quantity =
    if l.mismatch = true then y
    else (y.setLane n (fun l => { l with mismatch := true })).post e .laneMismatch fleet (some (.lane n)) cause quantity := by
  simp only [Yard.setMismatch, found]

/-- OVERFULL set, once (R106). -/
theorem Yard.setOverfull_eq (found : y.lane? n = some l) (fleet : Nat) : y.setOverfull e n fleet =
    if l.overfull = true then y
    else
      (y.setLane n (fun l => { l with overfull := true })).post e .laneOverfull fleet (some (.lane n)) 0 (y.occupied l) := by
  simp only [Yard.setOverfull, found]

/-- OVERFULL cleared once the occupants fit (R106). -/
theorem Yard.recheckOverfull_eq (found : y.lane? n = some l) : y.recheckOverfull n =
    if l.overfull = true ∧ y.occupied l ≤ l.capacity then y.setLane n (fun l => { l with overfull := false }) else y := by
  simp only [Yard.recheckOverfull, found]

/-- An exit handed to the sequencer (R137). -/
theorem Yard.handExit_eq (f : Nat) (sanctioned : Bool) (y : Yard) : y.handExit f sanctioned =
    match y.departure? f with
    | none => y
    | some d =>
      if sanctioned = true ∧ d.state = .released then
        y.setDeparture f (fun d => { d with state := .outbound, lapse := none })
      else y := by
  unfold Yard.handExit
  cases y.departure? f with
  | none => rfl
  | some d => simp only [Bool.and_eq_true, beq_iff_eq]

/-- "Shunt ended", with no record of the bus too (R51). -/
theorem Yard.shuntEnded_match (f : Nat) (y : Yard) : y.shuntEnded f =
    match y.bus? f with
    | none => y
    | some c =>
      if c.wait = .entry then y.setBus f (fun c => { c with wait := c.shuntMarker.getD c.wait, shuntMarker := none }) else y := by
  unfold Yard.shuntEnded
  cases y.bus? f <;> rfl

/-- "Entered" (R49). -/
theorem Yard.enteredSignal_match (f : Nat) (y : Yard) : y.enteredSignal e f =
    match y.bus? f with
    | none => y
    | some c => if c.wait = .entry then y.advanceSteps e f 16 none (c.cursor.getD 0 + 1) else y := by
  unfold Yard.enteredSignal
  cases y.bus? f <;> rfl

/-- The plan of a bus whose reservation was used, by the kind (R104 step 9). -/
theorem Yard.entryTaken_match (f : Nat) (kind : ReservationKind) (y : Yard) : y.entryTaken e f kind =
    if kind = .shunt then
      match y.bus? f with
      | none => y
      | some c =>
        if c.wait = .entry then y.setBus f (fun c => { c with wait := c.shuntMarker.getD c.wait, shuntMarker := none }) else y
    else
      match y.bus? f with
      | none => y
      | some c => if c.wait = .entry then y.advanceSteps e f 16 none (c.cursor.getD 0 + 1) else y := by
  cases kind
  · exact Yard.enteredSignal_match f y
  · exact Yard.shuntEnded_match f y

/-- "Reservation dropped" (R51). -/
theorem Yard.reservationDropped_match (d : Nat × Nat) (y : Yard) : y.reservationDropped e d =
    match y.bus? d.1 with
    | none => y
    | some c => if c.wait = .entry then y.advanceSteps e d.1 16 (some d.2) (c.cursor.getD 0) else y := by
  unfold Yard.reservationDropped
  cases y.bus? d.1 <;> rfl

/-- A bus leaves a lane by a correction (R110). -/
theorem Yard.leaveLane_eq (found : y.lane? n = some l) (f : Nat) :
    let out := y.setLane n (Lane.remove f)
    let freed := if l.release.map Prod.fst = some f then out.clearRelease n else out
    let told := freed.handExit f (decide (l.release = some (f, .depart)))
    let settled := ((told.recountInversions e n).recheckOverfull n).updateSign n
    y.leaveLane e f n = if l.exitEnd = some f then settled.raise else settled := by
  simp only [Yard.leaveLane, found, beq_eq_decide]

/-! ### Releases withdrawn -/

section

variable {g : Nat} (removed : Option (Nat × Nat))

theorem Yard.withdrawRelease_none (found : y.lane? n = some l) (free : l.release = none) :
    y.withdrawRelease e n removed = y := by
  simp only [Yard.withdrawRelease, found, Option.bind_some, free]

/-- A DEPART release withdrawn: the sequencer told (R107, R136). -/
theorem Yard.withdrawRelease_depart (found : y.lane? n = some l) (claim : l.release = some (g, .depart)) :
    y.withdrawRelease e n removed = (y.clearRelease n).releaseWithdrawn e g n := by
  simp only [Yard.withdrawRelease, found, Option.bind_some, claim]

/-- A CALL release withdrawn: the call that stands returned and withdrawn at its point (R107). -/
theorem Yard.withdrawRelease_called {q : Point} (found : y.lane? n = some l) (claim : l.release = some (g, .call))
    (calling : (y.clearRelease n).callingPoint? g = some q) :
    y.withdrawRelease e n removed = ((y.clearRelease n).returnTurn e q.id g).withdrawCall q.id := by
  simp only [Yard.withdrawRelease, found, Option.bind_some, claim, calling]

theorem Yard.withdrawRelease_uncalled (found : y.lane? n = some l) (claim : l.release = some (g, .call))
    (free : (y.clearRelease n).callingPoint? g = none) : y.withdrawRelease e n removed = y.clearRelease n := by
  simp only [Yard.withdrawRelease, found, Option.bind_some, claim, free]

/-- A SHUNT release withdrawn: the shunt cancelled (R107, R118). -/
theorem Yard.withdrawRelease_shunt (found : y.lane? n = some l) (claim : l.release = some (g, .shunt)) :
    y.withdrawRelease e n removed =
      (y.clearRelease n).cancelShunt e g 5 ((removed.filter (fun r => r.1 == g)).map Prod.snd) := by
  simp only [Yard.withdrawRelease, found, Option.bind_some, claim]

/-- "Release withdrawn" at the sequencer (R136). -/
theorem Yard.releaseWithdrawn_released {d : Departure} (entry : y.departure? g = some d) (released : d.state = .released) :
    y.releaseWithdrawn e g n =
      (y.setDeparture g (fun d => { d with state := .due, lapse := none })).post e .releaseWithdrawn g (some (.lane n)) 0
        d.slot := by
  simp only [Yard.releaseWithdrawn, entry, if_pos released]

theorem Yard.releaseWithdrawn_other (other : ∀ d, y.departure? g = some d → d.state ≠ .released) :
    y.releaseWithdrawn e g n = y := by
  unfold Yard.releaseWithdrawn
  split
  · rfl
  · next d entry => exact if_neg (other d entry)

end

/-! ### Evictions -/

/-- Nothing is evicted where no reservation stands or the places fit (R106). -/
theorem Yard.evict_none {k : Nat} {ev : Evictions} (found : y.lane? n = some l)
    (fits : l.reservations = [] ∨ y.occupied l + l.reserved ≤ l.capacity) : Yard.evict e n (k + 1) (y, ev) = (y, ev) := by
  rw [Yard.evict, found]
  dsimp only
  split
  · rfl
  · next r last =>
    refine if_pos (fits.resolve_left fun none_ => ?_)
    rw [none_] at last
    cases last

/-- The capacity rule (R106). -/
theorem Yard.capacityRule_eq (found : y.lane? n = some l) (f : Nat) :
    let done := Yard.evict e n l.reservations.length (y, { count := 0, reruns := [] })
    y.capacityRule e n f = if l.capacity < y.occupied l then (done.1.setOverfull e n f, done.2) else done := by
  simp only [Yard.capacityRule, found]

/-- The bus of a release field that a shunt not ended holds (log 31). -/
theorem Yard.shuntTarget_isSome (y : Yard) (f : Nat) :
    (y.shuntTarget? f).isSome = (y.reservation? f).any (fun h => h.2.kind == .shunt) := by
  unfold Yard.shuntTarget?
  rcases y.reservation? f with _ | ⟨m, r⟩
  · rfl
  · cases kind : r.kind <;> simp [kind]

/-- The lane of the bus's SHUNT reservation, with the bus. -/
theorem Yard.shuntTarget_map (y : Yard) (f : Nat) : (y.shuntTarget? f).map (fun m => (f, m)) =
    if (y.reservation? f).any (fun h => h.2.kind == .shunt) then (y.reservation? f).map (fun h => (f, h.1)) else none := by
  unfold Yard.shuntTarget?
  rcases y.reservation? f with _ | ⟨m, r⟩
  · rfl
  · cases kind : r.kind <;> simp [kind]

theorem Yard.shuntsFrom_eq (y : Yard) (l : Lane) : y.shuntsFrom l =
    l.release.any (fun r => r.2 == .shunt && (y.reservation? r.1).any (fun h => h.2.kind == .shunt)) := by
  simp only [Yard.shuntsFrom, Yard.shuntTarget_isSome]

/-! ### Reports -/

section

variable {b : Bus}

/-- EXITED of a known bus (R109): a bus in TURN that is LOOSE again raises a selection event (R60). -/
theorem Yard.exitedKnown_eq (known : y.bus? f = some b) (found : y.lane? n = some l) :
    let out := (y.setLane n (Lane.remove f)).setBus f (fun b => { b with position := .loose })
    let loose := if b.wait = .turn then out.raise else out
    let gone :=
      if b.position ≠ .inLane n then y.setMismatch e n f 3 0
      else if l.exitEnd = some f then loose
      else loose.setMismatch e n f 2 0
    let freed := if l.release.map Prod.fst = some f then gone.clearRelease n else gone.unsanctioned e n f l.release
    let told := freed.handExit f (decide (l.release = some (f, .depart)))
    let settled := (((told.recountInversions e n).recheckOverfull n).updateSign n).rerunWaits e
    y.exitedKnown e n f =
      if (b.position = .inLane n ∧ l.exitEnd = some f) ∨ l.release.map Prod.fst = some f then settled.raise else settled := by
  intro out loose gone freed told settled
  have placed : b.position = .inLane n → (y.setLane n (Lane.remove f)).place f .loose = loose := by
    intro here
    refine (Yard.place_eq (y := y.setLane n (Lane.remove f)) known .loose).trans ?_
    simp only [here, loose, out, ne_eq, reduceCtorEq, not_false_eq_true, true_and]
  have gone_eq : (if b.position = .inLane n then
      if l.exitEnd = some f then (y.setLane n (Lane.remove f)).place f .loose
      else ((y.setLane n (Lane.remove f)).place f .loose).setMismatch e n f 2 0
      else y.setMismatch e n f 3 0) = gone := by
    by_cases here : b.position = .inLane n
    · simp only [gone, here, placed here, ne_eq, not_true_eq_false, if_true, if_false]
    · simp only [gone, here, ne_eq, not_false_eq_true, if_true, if_false]
  simp only [Yard.exitedKnown, known, found, Bool.or_eq_true, Bool.and_eq_true, beq_iff_eq, beq_eq_decide (α := Option (Nat × ReleaseReason)),
    gone_eq, settled, told, freed]

/-- A report of a kind that a lane's station does not carry (R150 step 5). -/
theorem Yard.laneReport_other {r : Report} (other : r.kind ∉ [.entered, .exited, .occupancy, .tagSeen]) :
    y.laneReport e n r = y := by
  unfold Yard.laneReport
  cases kind : r.kind
  case entered | exited | occupancy | tagSeen => exact absurd (by simp [kind]) other
  all_goals rfl

/-- TAG_SEEN (R112): the known bus at the exit end agrees with the map, any other tag does not. -/
theorem Yard.tagSeen_eq (found : y.lane? n = some l) (known : Option Nat) : y.tagSeen e n known =
    if known.isSome = true ∧ l.exitEnd = known then y else y.setMismatch e n (known.getD 0) 5 0 := by
  simp only [Yard.tagSeen, found, Bool.and_eq_true, beq_iff_eq]

/-- ENTERED of an unknown bus: a BLIND lane's mouth is blocked (R104). -/
theorem Yard.enteredUnknown_eq (found : y.lane? n = some l) :
    let marked := y.setMismatch e n 0 4 0
    y.enteredUnknown e n =
      if l.kind = .blind then
        if y.shuntsFrom l then (marked.withdrawRelease e n none).rerunWaits e else marked.withdrawRelease e n none
      else marked := by
  simp only [Yard.enteredUnknown, found]

end

end

/-- Settles O41: the requests by the checks they share; each operation of a report by its lemma; ENTERED by showing that the statement's
steps are the model's, from the last to the first. -/
theorem lanesClosedOpenedAndForced : Obligations.LanesClosedOpenedAndForced := by
  refine ⟨?_, ?_, ?_⟩
  · intro s tag number mask value running n y checks turned
    refine ⟨?_, ?_, ?_⟩
    · intro body taken
      have row := NamesLane.row (c := .laneClose) rfl rfl rfl taken rfl rfl
      refine ⟨⟨row.badValue running, row.notFound running⟩, fun l low high known => ?_⟩
      have answered {t : State} {r : Reply} := row.acts (t := t) (r := r) running low high known
      have same : l.number = n := Yard.lane_number known
      refine ⟨fun closed => answered (r := .ok []) (if_pos closed), fun opened empty free => answered (r := .ok []) ?_,
        fun opened used => answered (r := .refuse .wrongState) ?_⟩
      · rw [opened, empty, free, same]
        rfl
      · have inUse : ¬ (l.occupants.isEmpty && l.reservations.isEmpty) = true := by
          rw [Bool.and_eq_true, List.isEmpty_iff, List.isEmpty_iff, not_and_or]
          exact used
        rw [opened]
        exact if_neg inUse
    · intro body taken
      have row := NamesLane.row (c := .laneOpen) rfl rfl rfl taken rfl rfl
      refine ⟨⟨row.badValue running, row.notFound running⟩, fun l low high known => ?_⟩
      have answered {t : State} {r : Reply} := row.acts (t := t) (r := r) running low high known
      have same : l.number = n := Yard.lane_number known
      refine ⟨fun closed => answered (r := .ok []) ?_, fun opened => answered (r := .refuse .wrongState) ?_⟩
      · rw [closed, same]
        rfl
      · rw [opened]
        rfl
    · intro body taken
      have row := NamesLane.row (c := .laneForce) rfl rfl rfl taken rfl rfl
      refine ⟨⟨row.badValue running, row.notFound running⟩, fun l low high known => ?_⟩
      have maskAt : BitVec.ofNat 12 (wordAt body 3) = mask.setWidth 12 :=
        (congrArg _ (word_bytes mask)).trans (BitVec.ofNat_toNat 12 mask)
      have valueAt : BitVec.ofNat 12 (wordAt body 5) = value.setWidth 12 :=
        (congrArg _ (word_bytes value)).trans (BitVec.ofNat_toNat 12 value)
      refine row.acts (r := .ok []) running low high known ?_
      rw [maskAt, valueAt, Yard.lane_number known]
      rfl
  · intro e y n l mask found_ found count agreed
    have occupancy : y.occupancy e n mask =
        if count = y.occupied l then if l.mismatch then (agreed.rerunWaits e).raise else agreed
        else y.setMismatch e n 0 1 count := by
      rw [Yard.occupancy_eq found_, countPlaces_forced]
      rfl
    rw [Yard.setMismatch_eq found_] at occupancy
    refine ⟨fun agrees marked => ?_, fun agrees clear => ?_, fun differs marked => ?_, fun differs clear => ?_⟩
    · rw [occupancy, if_pos agrees, if_pos marked]
    · rw [occupancy, if_pos agrees, clear]
      rfl
    · rw [occupancy, if_neg differs, if_pos marked]
    · rw [occupancy, if_neg differs, clear]
      rfl
  · intro e y n l found unreserved cleared exits shuntEnds places
    have exits_eq (f : Nat) (sanctioned : Bool) (z : Yard) : z.handExit f sanctioned = exits f sanctioned z :=
      Yard.handExit_eq f sanctioned z
    have ends_eq (f : Nat) (z : Yard) : z.shuntEnded f = shuntEnds f z := Yard.shuntEnded_match f z
    refine ⟨Yard.setMismatch_eq found, Yard.setOverfull_eq found, Yard.recheckOverfull_eq found, ?_, ?_, ?_, ?_, ?_, ?_⟩
    · intro f out freed told settled
      refine (Yard.leaveLane_eq found f).trans ?_
      simp only [exits_eq]
      rfl
    · intro f code was ends
      have cancelled (m : Nat) (z : Yard) : z.shuntCancelled e f code m = ends m z := ends_eq f _
      refine ⟨fun m r held shunt => ?_, fun park => ⟨fun m there => ?_, fun none_ => ?_⟩⟩
      · have target : y.shuntTarget? f = some m := Yard.shuntTarget_some.2 ⟨r, held, shunt⟩
        rw [Yard.cancelShunt_eq, target]
        exact cancelled m _
      · rw [Yard.cancelShunt_eq, Yard.shuntTarget_none.2 park, there]
        exact cancelled m y
      · rw [Yard.cancelShunt_eq, Yard.shuntTarget_none.2 park, none_]
    · intro removed
      refine ⟨Yard.withdrawRelease_none removed found, fun g claim => ?_, fun g claim => ?_, fun g claim => ?_⟩
      · rw [Yard.withdrawRelease_depart removed found claim]
        exact ⟨Yard.releaseWithdrawn_other, fun d => Yard.releaseWithdrawn_released⟩
      · exact ⟨Yard.withdrawRelease_uncalled removed found claim, fun q => Yard.withdrawRelease_called removed found claim⟩
      · rw [Yard.withdrawRelease_shunt removed found claim]
        refine ⟨fun m removed_ => ?_, fun other => ?_⟩
        · simp only [removed_, Option.filter_some, beq_self_eq_true, if_true, Option.map_some]
          rfl
        · have gone : removed.filter (fun r => r.1 == g) = none := by
            refine Option.filter_eq_none_iff.2 fun r hr same => other r.2 ?_
            rw [hr, ← beq_iff_eq.1 same]
          rw [gone]
          rfl
    · intro k ev
      refine ⟨rfl, Yard.evict_none found, fun older r last exceeds => ?_⟩
      have evicted := Yard.evict_last (e := e) (k := k) (v := ev) found (r := r) (by rw [last, List.getLast?_concat]) exceeds
      refine ⟨fun park => ?_, fun shunt => ?_⟩
      · rw [evicted, park]
        rfl
      · rw [evicted, shunt]
    · intro f done
      have rule : y.capacityRule e n f = if l.capacity < y.occupied l then (done.1.setOverfull e n f, done.2) else done :=
        Yard.capacityRule_eq found f
      exact ⟨fun fits => rule.trans (if_neg (Nat.not_lt.2 fits)), fun exceeds => rule.trans (if_pos exceeds)⟩
    · intro r f goes shunting shunts
      have known? {b : Bus} (known : y.bus? f = some b) : y.known? r = some f := Yard.known_of_bus known
      have unknown? (unknown : y.bus? f = none) : y.known? r = none := congrArg (Option.map Bus.fleet) unknown
      have shunts_eq : y.shuntsFrom l = shunts := Yard.shuntsFrom_eq y l
      have reports {z : Yard} (gives : y.laneReport e n r = z) : goes z := gives
      refine ⟨fun other => reports (Yard.laneReport_other other), fun kind => reports ?_,
        fun kind => ⟨fun unknown => reports ?_, fun known elsewhere => reports ?_, fun known here => reports ?_⟩,
        fun kind unknown => reports ?_, ?_, ?_, ?_⟩
      · simp only [Yard.laneReport, kind]
      · simp only [Yard.laneReport, kind, unknown? unknown, Yard.tagSeen_eq found]
        rfl
      · obtain ⟨b, known⟩ := Option.ne_none_iff_exists'.1 known
        simp only [Yard.laneReport, kind, known? known, Yard.tagSeen_eq found, if_neg (not_and_of_not_right _ elsewhere)]
        rfl
      · obtain ⟨b, known⟩ := Option.ne_none_iff_exists'.1 known
        simp only [Yard.laneReport, kind, known? known, Yard.tagSeen_eq found, here, Option.isSome_some, and_self, if_true]
      · simp only [Yard.laneReport, kind, unknown? unknown]
        rfl
      · intro kind unknown marked
        refine ⟨fun through => reports ?_, fun blind => reports ?_⟩
        · simp only [Yard.laneReport, kind, unknown? unknown, Yard.enteredUnknown_eq found, through, reduceCtorEq, if_false]
          rfl
        · simp only [Yard.laneReport, kind, unknown? unknown, Yard.enteredUnknown_eq found, blind, if_true, shunts_eq]
          rfl
      · intro b kind known out loose gone reason freed told settled
        have reason_eq : ReleaseReason.code = reason := by
          funext claim
          cases claim <;> rfl
        refine reports ?_
        simp only [Yard.laneReport, kind, known? known, Yard.exitedKnown_eq known found]
        simp only [Yard.unsanctioned, reason_eq, exits_eq]
        rfl
      · intro b kind known held apart open_ inside boxed told own fitted stands noticed settled planned rerun leaves waited
        have inside_eq : inside = open_.setLane n (Lane.insert f) := by
          simp only [inside, funext (Lane.insert_eq f)]
        have boxed_eq : boxed = ((inside.lane? n).any Lane.boxedIn && (l.kind == .blind || l.occupants.contains f)) := by
          simp only [boxed, funext Lane.boxedIn_eq, Bool.and_comm]
        have told_eq : told = if boxed then inside.withdrawRelease e n ((y.shuntTarget? f).map (fun m => (f, m))) else inside := by
          simp only [told, Yard.shuntTarget_map]
          rfl
        have noticed_eq : noticed = fitted.1.entryNotice e f n b.position held fitted.2.count := rfl
        have planned_eq : planned = settled.entryPlan e f held := by
          dsimp only [planned, Yard.entryPlan]
          cases held with
          | none => rfl
          | some h => exact (Yard.entryTaken_match f h.2.kind settled).symm
        have rerun_eq : rerun = planned.rerunDropped e fitted.2 :=
          congrArg (fun op => fitted.2.reruns.foldl op planned)
            (funext fun z => funext fun d => (Yard.reservationDropped_match d z).symm)
        have leaves_eq : leaves = ((b.position.lane?).any (· != n) || held.any (fun h => h.1 != n) || (boxed && y.shuntsFrom l) ||
            0 < fitted.2.count) := by
          rw [shunts_eq]
        have entered : y.laneReport e n r = y.enteredKnown e n f := by
          simp only [Yard.laneReport, kind, known? known]
        refine reports (entered.trans ?_)
        unfold Yard.enteredKnown
        rw [known, found]
        clear_value leaves rerun planned told boxed inside
        subst leaves_eq rerun_eq planned_eq told_eq boxed_eq inside_eq
        obtain ⟨h, held_eq⟩ : ∃ h, held = h := ⟨_, rfl⟩
        rw [show y.reservation? f = h from held_eq]
        clear_value held
        subst held_eq
        rcases held with _ | ⟨m, kept⟩ <;> rfl

end Sys2Proof.Machine
end

section
/-!
PROOFS. What the steps of a LANE_SET leave as they stand (O42): stations, the buses of the departure list, pull-out, frost, the command in
flight, the notices it does not post, and views of the bus and lane records.
-/
namespace Sys2Proof.Machine

/-- The notices of positions, entries and mismatches, which a LANE_SET does not post (R119). -/
def placementKinds : List NoticeKind := [.positionCorrected, .parked, .mispark, .unplannedEntry, .laneMismatch]

/-- What of a bus record no event but a BUS_SET changes. -/
def Bus.build (b : Bus) : Nat × BusLength := (b.fleet, b.length)

/-- A bus's build and where it stands. -/
def Bus.standing (b : Bus) : (Nat × BusLength) × Position := (b.build, b.position)

/-- What of a lane record no event changes. -/
def Lane.build (l : Lane) : Nat × Nat := (l.number, l.capacity)

/-- A lane's build, its occupants and their flags. -/
def Lane.standing (l : Lane) : (Nat × Nat) × List Nat × Bool × Bool := (l.build, l.occupants, l.mismatch, l.overfull)

/-- From `y` to `z` the stations, the buses of the departure list, pull-out, frost and the command in flight stand, no notice of
`placementKinds` was posted, and the bus and lane records are the same to these views. -/
structure Yard.Framed {α β : Type} (ofBus : Bus → α) (ofLane : Lane → β) (y z : Yard) : Prop where
  stations : z.stations = y.stations
  departures : z.departures.map Departure.bus = y.departures.map Departure.bus
  pullout : z.pullout = y.pullout
  pacing : z.pacing = y.pacing
  frost : z.frost = y.frost
  inFlight : z.inFlight = y.inFlight
  silent : SilentOn placementKinds y z
  fleet : z.fleet.map ofBus = y.fleet.map ofBus
  lanes : z.lanes.map ofLane = y.lanes.map ofLane

/-- From `y` to `z` every bus stands where it stood, and every lane has its occupants and their flags. -/
abbrev Yard.Stands : Yard → Yard → Prop := Yard.Framed Bus.standing Lane.standing

/-- From `y` to `z` buses may have moved. -/
abbrev Yard.Moved : Yard → Yard → Prop := Yard.Framed Bus.build Lane.build

namespace Yard.Framed

section

variable {α β γ δ : Type} {ofBus : Bus → α} {ofLane : Lane → β} {x y z : Yard}

theorem refl (y : Yard) : Framed ofBus ofLane y y := ⟨rfl, rfl, rfl, rfl, rfl, rfl, fun _ _ => rfl, rfl, rfl⟩

theorem trans (h : Framed ofBus ofLane x y) (k : Framed ofBus ofLane y z) : Framed ofBus ofLane x z :=
  ⟨k.stations.trans h.stations, k.departures.trans h.departures, k.pullout.trans h.pullout, k.pacing.trans h.pacing,
    k.frost.trans h.frost, k.inFlight.trans h.inFlight, fun n hn => (k.silent n hn).trans (h.silent n hn),
    k.fleet.trans h.fleet, k.lanes.trans h.lanes⟩

theorem foldl {ι : Type} {op : Yard → ι → Yard} (h : ∀ (y : Yard) i, Framed ofBus ofLane y (op y i)) :
    ∀ (l : List ι) (y : Yard), Framed ofBus ofLane y (l.foldl op y)
  | [], y => refl y
  | i :: l, y => (h y i).trans (foldl h l (op y i))

/-- Records that are the same to a view are so to what the view determines. -/
theorem coarser (p : α → γ) (q : β → δ) (h : Framed ofBus ofLane y z) : Framed (p ∘ ofBus) (q ∘ ofLane) y z := by
  have fleet := congrArg (List.map p) h.fleet
  have lanes := congrArg (List.map q) h.lanes
  rw [List.map_map, List.map_map] at fleet lanes
  exact ⟨h.stations, h.departures, h.pullout, h.pacing, h.frost, h.inFlight, h.silent, fleet, lanes⟩

/-- Where no bus moved and no lane's occupants changed, none did to the coarser views. -/
theorem moved (h : y.Stands z) : y.Moved z := h.coarser Prod.fst Prod.fst

/-! ### The records' own updates -/

theorem same (fleet : z.fleet = y.fleet) (lanes : z.lanes = y.lanes) (stations : z.stations = y.stations)
    (departures : z.departures = y.departures) (pullout : z.pullout = y.pullout) (pacing : z.pacing = y.pacing)
    (frost : z.frost = y.frost) (inFlight : z.inFlight = y.inFlight) (notices : z.notices = y.notices) :
    Framed ofBus ofLane y z :=
  ⟨stations, by rw [departures], pullout, pacing, frost, inFlight, fun _ _ => by rw [notices], by rw [fleet], by rw [lanes]⟩

theorem raise (y : Yard) : Framed ofBus ofLane y y.raise := same rfl rfl rfl rfl rfl rfl rfl rfl rfl

theorem setBus {f : Nat} {g : Bus → Bus} (keeps : ∀ b, ofBus (g b) = ofBus b) (y : Yard) :
    Framed ofBus ofLane y (y.setBus f g) :=
  ⟨rfl, rfl, rfl, rfl, rfl, rfl, fun _ _ => rfl, map_update_keys ofBus _ g keeps _, rfl⟩

theorem setLane {n : Nat} {g : Lane → Lane} (keeps : ∀ l, ofLane (g l) = ofLane l) (y : Yard) :
    Framed ofBus ofLane y (y.setLane n g) :=
  ⟨rfl, rfl, rfl, rfl, rfl, rfl, fun _ _ => rfl, rfl, map_update_keys ofLane _ g keeps _⟩

theorem setDeparture {f : Nat} {g : Departure → Departure} (keeps : ∀ d, (g d).bus = d.bus) (y : Yard) :
    Framed ofBus ofLane y (y.setDeparture f g) :=
  ⟨rfl, map_update_keys Departure.bus _ g keeps _, rfl, rfl, rfl, rfl, fun _ _ => rfl, rfl, rfl⟩

theorem post {e : Env} {kind : NoticeKind} (other : kind ∉ placementKinds) (f : Nat) (place : Option Place) (code quantity : Nat)
    (y : Yard) : Framed ofBus ofLane y (y.post e kind f place code quantity) :=
  ⟨rfl, rfl, rfl, rfl, rfl, rfl,
    fun _ hk => Notices.tally_post_other (by rintro rfl; exact other hk) f place code quantity _, rfl, rfl⟩

/-! ### Lookups -/

/-- A bus record is found as before, to its view. -/
theorem bus (key : α → Nat) (keyed : ∀ b, key (ofBus b) = b.fleet) (h : Framed ofBus ofLane y z) (f : Nat) :
    (z.bus? f).map ofBus = (y.bus? f).map ofBus := by
  have viewed (l : List Bus) : (l.find? (fun b => b.fleet == f)).map ofBus = (l.map ofBus).find? (fun a => key a == f) := by
    rw [List.find?_map]
    simp only [Function.comp_def, keyed]
  rw [Yard.bus?, Yard.bus?, viewed, viewed, h.fleet]

/-- A lane record is found as before, to its view. -/
theorem lane (key : β → Nat) (keyed : ∀ l, key (ofLane l) = l.number) (h : Framed ofBus ofLane y z) (n : Nat) :
    (z.lane? n).map ofLane = (y.lane? n).map ofLane := by
  have viewed (l : List Lane) : (l.find? (fun b => b.number == n)).map ofLane = (l.map ofLane).find? (fun a => key a == n) := by
    rw [List.find?_map]
    simp only [Function.comp_def, keyed]
  rw [Yard.lane?, Yard.lane?, viewed, viewed, h.lanes]

end

variable {e : Env} {f n : Nat} {y z : Yard}

/-! ### Signs and claims -/

theorem wantSign (y : Yard) : y.Stands (y.wantSign n) := by
  unfold Yard.wantSign
  split
  · exact refl y
  · split
    · exact same rfl rfl rfl rfl rfl rfl rfl rfl rfl
    · exact setLane (by intro; rfl) y
    · exact same rfl rfl rfl rfl rfl rfl rfl rfl rfl

theorem updateSign (y : Yard) : y.Stands (y.updateSign n) := by
  unfold Yard.updateSign
  split
  · exact refl y
  · split
    · exact refl y
    · exact (setLane (by intro; rfl) y).trans (wantSign _)

theorem clearRelease (y : Yard) : y.Stands (y.clearRelease n) :=
  ((setLane (by intro; rfl) y).trans (updateSign _)).trans (raise _)

theorem releaseClaim (reason : ReleaseReason) (y : Yard) : y.Stands (y.releaseClaim f reason) := by
  unfold Yard.releaseClaim
  split
  · exact clearRelease y
  · exact refl y

theorem dropReservation (y : Yard) : y.Stands (y.dropReservation n f) := (setLane (by intro; rfl) y).trans (updateSign _)

theorem recountInversions (y : Yard) : y.Stands (y.recountInversions e n) := by
  unfold Yard.recountInversions
  split
  · exact refl y
  · dsimp only
    split
    · exact (setLane (by intro; rfl) y).trans (post (by decide) _ _ _ _ _)
    · exact setLane (by intro; rfl) y

/-! ### Berths -/

theorem reserve (b : Bus) (kind : ReservationKind) (wait : PlanWait) (lapses code quantity : Nat) (y : Yard) :
    y.Stands (y.reserve e b n kind wait lapses code quantity) :=
  (((setLane (by intro; rfl) y).trans (setBus (by intro; rfl) _)).trans (updateSign _)).trans (post (by decide) _ _ _ _ _)

theorem berthRequest (b : Bus) (arg : Option Nat) (lapses : Nat) (y : Yard) : y.Stands (y.berthRequest e b arg lapses) := by
  unfold Yard.berthRequest
  split
  · exact reserve b _ _ _ _ _ y
  · have joined : y.Stands { y with waits := y.waits ++ [{ bus := b.fleet, lane := arg, lapses }] } :=
      same rfl rfl rfl rfl rfl rfl rfl rfl rfl
    exact (joined.trans (setBus (by intro; rfl) _)).trans (post (by decide) _ _ _ _ _)

theorem retryWait (w : BerthWait) (y : Yard) : y.Stands (y.retryWait e w) := by
  unfold Yard.retryWait
  split
  · exact refl y
  · split
    · have left : y.Stands (y.leaveWaits w.bus) := same rfl rfl rfl rfl rfl rfl rfl rfl rfl
      exact left.trans (reserve _ _ _ _ _ _ _)
    · exact refl y

theorem rerunWaits (y : Yard) : y.Stands (y.rerunWaits e) := foldl (fun y w => retryWait w y) _ y

/-! ### Plans -/

theorem planFault (cause : FaultCause) (a : Nat) (y : Yard) : y.Stands (y.planFault e f cause a) :=
  (setBus (by intro; rfl) y).trans (post (by decide) _ _ _ _ _)

theorem planStalled (code a : Nat) (y : Yard) : y.Stands (y.planStalled e f code a) :=
  (setBus (by intro; rfl) y).trans (post (by decide) _ _ _ _ _)

theorem enqueueTurn {request : TurnRequest} (joined : y.enqueueTurn e f request = some z) : y.Stands z := by
  unfold Yard.enqueueTurn at joined
  split at joined
  · cases joined
  · cases joined
    refine Framed.trans ?_ ((setBus (by intro; rfl) _).trans (raise _))
    exact same (Yard.joinQueue_fleet ..) (Yard.joinQueue_lanes ..) (Yard.joinQueue_stations ..) (Yard.joinQueue_departures ..)
      (Yard.joinQueue_pullout ..) (Yard.joinQueue_pacing ..) (Yard.joinQueue_frost ..) (Yard.joinQueue_inFlight ..)
      (Yard.joinQueue_notices ..)

theorem execStep (b : Bus) (a : Nat) (mark : Option Nat) (st : Step) (y : Yard) : y.Stands (y.execStep e b a mark st).1 := by
  cases st <;> simp only [Yard.execStep]
  case fuel =>
    split
    · next joined => exact enqueueTurn joined
    · exact planStalled _ _ y
  case wash program =>
    split
    · exact setBus (by intro; rfl) y
    · split
      · next joined => exact enqueueTurn joined
      · exact planStalled _ _ y
  case park arg => exact berthRequest _ _ _ y
  case hold | rep => exact setBus (by intro; rfl) y
  case test | jump => exact refl y
  case call target =>
    split
    · exact planFault _ _ y
    · split
      · exact planFault _ _ y
      · exact setBus (by intro; rfl) y
  case ret =>
    split
    · exact planFault _ _ y
    · exact setBus (by intro; rfl) y
  case note => exact post (by decide) _ _ _ _ y
  case finish notify =>
    split
    · exact (setBus (by intro; rfl) y).trans (post (by decide) _ _ _ _ _)
    · exact setBus (by intro; rfl) y

theorem advanceSteps (f : Nat) : ∀ (n : Nat) (mark : Option Nat) (a : Nat) (y : Yard), y.Stands (y.advanceSteps e f n mark a)
  | 0, _, _, y => planFault _ _ y
  | n + 1, mark, a, y => by
    unfold Yard.advanceSteps
    split
    · exact refl y
    split
    · exact planFault _ _ y
    split
    · exact planFault _ _ y
    · next b _ _ _ st _ =>
      have executed : y.Stands ((y.cursorAt f a).execStep e b a mark st).1 :=
        (setBus (by intro; rfl) y).trans (execStep b a mark st _)
      unfold Yard.cursorAt at executed
      split
      · exact planFault _ _ y
      · split
        · next stepped =>
          rw [stepped] at executed
          exact executed.trans (advanceSteps f n none _ _)
        · next stepped =>
          rw [stepped] at executed
          exact executed

theorem shuntEnded (y : Yard) : y.Stands (y.shuntEnded f) := by
  rw [Yard.shuntEnded_match]
  repeat' split
  · exact refl y
  · exact setBus (by intro; rfl) y
  · exact refl y

theorem enteredSignal (y : Yard) : y.Stands (y.enteredSignal e f) := by
  rw [Yard.enteredSignal_match]
  repeat' split
  · exact refl y
  · exact advanceSteps f _ _ _ y
  · exact refl y

theorem entryTaken (kind : ReservationKind) (y : Yard) : y.Stands (y.entryTaken e f kind) := by
  cases kind
  · exact enteredSignal y
  · exact shuntEnded y

theorem reservationDropped (d : Nat × Nat) (y : Yard) : y.Stands (y.reservationDropped e d) := by
  rw [Yard.reservationDropped_match]
  repeat' split
  · exact refl y
  · exact advanceSteps _ _ _ _ y
  · exact refl y

theorem rerunDropped (ev : Evictions) (y : Yard) : y.Stands (y.rerunDropped e ev) :=
  foldl (fun y d => reservationDropped d y) ev.reruns y

/-! ### Turns returned and calls withdrawn -/

theorem frostWash (residue : Nat) (place : Option Place) (y : Yard) : y.Stands (y.frostWash e f residue place) := by
  have ended : y.Stands (y.endWashStep e f residue place) := by
    unfold Yard.endWashStep
    split
    · exact refl y
    · have freed (z : Yard) : z.Stands (z.freeTurn f) := same rfl rfl rfl rfl rfl rfl rfl rfl rfl
      exact ((setBus (by intro; rfl) y).trans (freed _)).trans (post (by decide) _ _ _ _ _)
  refine ended.trans ?_
  unfold Yard.frostWash
  rw [Yard.frostEnd_eq]
  repeat' split
  · exact refl _
  · exact (setBus (by intro; rfl) _).trans (advanceSteps f _ _ _ _)
  · exact refl _

theorem returnTurn (p : PointId) (y : Yard) : y.Stands (y.returnTurn e p f) := by
  unfold Yard.returnTurn
  split
  · split
    · exact frostWash _ _ y
    · have waiting : y.Stands (y.setTurn f (fun t => { t with status := .waiting })) :=
        same rfl rfl rfl rfl rfl rfl rfl rfl rfl
      refine (waiting.trans ?_).trans (raise _)
      unfold Yard.turnReturned
      split
      · exact setBus (by intro; rfl) _
      · exact refl _
  · exact refl y

theorem withdrawCall (p : PointId) (y : Yard) : y.Stands (y.withdrawCall p) := by
  have stopped : y.Stands (y.setPoint p (fun q => { q with callTimer := none })) := same rfl rfl rfl rfl rfl rfl rfl rfl rfl
  have wanted (z : Yard) : z.Stands (z.wantPoint p .clearCall) := by
    unfold Yard.wantPoint
    repeat' split
    all_goals exact same rfl rfl rfl rfl rfl rfl rfl rfl rfl
  have freed (z : Yard) : z.Stands (z.freePoint p) := by
    unfold Yard.freePoint Yard.vacatePoint
    repeat' split
    all_goals exact same rfl rfl rfl rfl rfl rfl rfl rfl rfl
  exact (stopped.trans (wanted _)).trans (freed _)

/-! ### Shunts, withdrawn releases, evictions -/

theorem cancelShunt (code : Nat) (was : Option Nat) (y : Yard) : y.Stands (y.cancelShunt e f code was) := by
  have ended (n : Nat) (z : Yard) : z.Stands (z.shuntCancelled e f code n) :=
    ((releaseClaim _ z).trans (post (by decide) _ _ _ _ _)).trans (shuntEnded _)
  rw [Yard.cancelShunt_eq]
  split
  · exact (dropReservation y).trans (ended _ _)
  · exact ended _ y
  · exact refl y

theorem handExit (sanctioned : Bool) (y : Yard) : y.Stands (y.handExit f sanctioned) := by
  rw [Yard.handExit_eq]
  repeat' split
  · exact refl y
  · exact setDeparture (by intro; rfl) y
  · exact refl y

theorem releaseWithdrawn (y : Yard) : y.Stands (y.releaseWithdrawn e f n) := by
  unfold Yard.releaseWithdrawn
  split
  · exact refl y
  · split
    · exact (setDeparture (by intro; rfl) y).trans (post (by decide) _ _ _ _ _)
    · exact refl y

theorem withdrawRelease (removed : Option (Nat × Nat)) (y : Yard) : y.Stands (y.withdrawRelease e n removed) := by
  unfold Yard.withdrawRelease
  split
  · exact refl y
  · next g reason _ =>
    refine (clearRelease (n := n) y).trans ?_
    cases reason
    · exact releaseWithdrawn _
    · dsimp only
      split
      · exact (returnTurn _ _).trans (withdrawCall _ _)
      · exact refl _
    · exact cancelShunt _ _ _

theorem evict : ∀ (k : Nat) (y : Yard) (ev : Evictions), y.Stands (Yard.evict e n k (y, ev)).1
  | 0, y, _ => refl y
  | k + 1, y, ev => by
    unfold Yard.evict
    split
    · exact refl y
    split
    · exact refl y
    split
    · exact refl y
    split
    · exact ((setLane (by intro; rfl) y).trans (post (by decide) _ _ _ _ _)).trans (evict k _ _)
    · exact (cancelShunt _ _ y).trans (evict k _ _)

theorem setUnreserve (f : Nat) (y : Yard) : y.Stands (y.setUnreserve e f) := by
  unfold Yard.setUnreserve
  split
  · exact refl y
  · next m r _ =>
    refine ((dropReservation (n := m) (f := f) y).trans ?_).trans (entryTaken _ _)
    cases r.kind
    · exact refl _
    · exact releaseClaim _ _

/-! ### Buses that move -/

theorem place (pos : Position) (y : Yard) : Framed Bus.build Lane.standing y (y.place f pos) := by
  unfold Yard.place
  split
  · exact refl y
  · dsimp only
    split
    · exact (setBus (by intro; rfl) y).trans (raise _)
    · exact setBus (by intro; rfl) y

theorem recheckOverfull (y : Yard) : Framed Bus.standing Lane.build y (y.recheckOverfull n) := by
  unfold Yard.recheckOverfull
  split
  · exact refl y
  · split
    · exact setLane (by intro; rfl) y
    · exact refl y

theorem setOverfull (y : Yard) : Framed Bus.standing Lane.build y (y.setOverfull e n f) := by
  unfold Yard.setOverfull
  split
  · exact refl y
  · split
    · exact refl y
    · exact (setLane (by intro; rfl) y).trans (post (by decide) _ _ _ _ _)

theorem leaveLane (y : Yard) : y.Moved (y.leaveLane e f n) := by
  unfold Yard.leaveLane
  split
  · exact refl y
  · next l _ =>
    dsimp only
    have out : y.Moved (y.setLane n (Lane.remove f)) := setLane (by intro; rfl) y
    have freed (z : Yard) : z.Moved (if l.release.map Prod.fst = some f then z.clearRelease n else z) := by
      split
      · exact (clearRelease z).moved
      · exact refl z
    have checked (z : Yard) : z.Moved (z.recheckOverfull n) := (recheckOverfull z).coarser Prod.fst id
    have settled (taken : Bool) := (((((out.trans (freed _)).trans (handExit (f := f) taken _).moved).trans
      (recountInversions (e := e) (n := n) _).moved).trans (checked _)).trans (updateSign (n := n) _).moved)
    split
    · exact (settled _).trans (raise _)
    · exact settled _

theorem setLeave (f : Nat) (y : Yard) : y.Moved (y.setLeave e n f) := by
  unfold Yard.setLeave
  split
  · split
    · exact refl y
    · exact leaveLane y
  · exact refl y

end Yard.Framed

end Sys2Proof.Machine
end

section
/-!
PROOFS. The seven steps of a LANE_SET (O42), and what they leave of the lane and of the listed and unlisted buses.
-/
namespace Sys2Proof.Machine

section

variable {e : Env} {y : Yard} {n : Nat} {l : Lane} {fleets : List Nat}

/-! ### Buses placed -/

/-- Where the buses are once one of them is placed. -/
theorem Yard.position_place (y : Yard) (g : Nat) (pos : Position) (f : Nat) :
    ((y.place g pos).bus? f).map Bus.position =
      if f = g then (y.bus? f).map (fun _ => pos) else (y.bus? f).map Bus.position := by
  cases known : y.bus? g with
  | none =>
    have same : y.place g pos = y := by simp only [Yard.place, known]
    rw [same]
    split
    · next here => rw [here, known]; rfl
    · rfl
  | some b =>
    have set : ((y.setBus g (fun b => { b with position := pos })).bus? f).map Bus.position =
        if f = g then (y.bus? f).map (fun _ => pos) else (y.bus? f).map Bus.position := by
      rw [Yard.bus_setBus _ _ _ (by intro; rfl)]
      split
      · rw [Option.map_map]; rfl
      · rfl
    rw [Yard.place_eq known]
    dsimp only
    split
    · exact set
    · exact set

/-- Where the buses are once several of them are placed. -/
theorem Yard.position_placeAll (pos : Position) (f : Nat) : ∀ (fs : List Nat) (y : Yard),
    ((fs.foldl (fun y g => y.place g pos) y).bus? f).map Bus.position =
      if f ∈ fs then (y.bus? f).map (fun _ => pos) else (y.bus? f).map Bus.position
  | [], y => rfl
  | g :: fs, y => by
    have known : ((y.place g pos).bus? f).map (fun _ => pos) = (y.bus? f).map (fun _ => pos) := by
      have placed := congrArg (Option.map (fun _ => pos)) (Yard.position_place y g pos f)
      rw [Option.map_map] at placed
      refine placed.trans ?_
      split
      all_goals rw [Option.map_map]; rfl
    rw [List.foldl_cons, Yard.position_placeAll pos f fs, known, Yard.position_place]
    by_cases here : f = g
    · simp only [here, List.mem_cons, true_or, if_true, ite_self]
    · simp only [here, List.mem_cons, false_or, if_false]

/-- A bus placed changes no lane. -/
theorem Yard.lane_placeAll (pos : Position) (k : Nat) : ∀ (fs : List Nat) (y : Yard),
    (fs.foldl (fun y g => y.place g pos) y).lane? k = y.lane? k
  | [], _ => rfl
  | g :: fs, y => by
    rw [List.foldl_cons, Yard.lane_placeAll pos k fs]
    unfold Yard.place
    split
    · rfl
    · dsimp only
      split
      · rfl
      · rfl

theorem Yard.Framed.placeAll (pos : Position) (fs : List Nat) (y : Yard) : y.Moved (fs.foldl (fun y g => y.place g pos) y) :=
  (Yard.Framed.foldl (fun y g => Yard.Framed.place (f := g) pos y) fs y).coarser id Prod.fst

/-! ### The seven steps -/

/-- Steps 1 and 2: the listed buses out of their other lanes and their reservations, the unlisted occupants LOOSE. -/
def Yard.setOut (e : Env) (n : Nat) (fleets : List Nat) (l : Lane) (y : Yard) : Yard :=
  (l.occupants.filter (fun f => !fleets.contains f)).foldl (fun y f => y.place f .loose)
    (fleets.foldl (Yard.setUnreserve e) (fleets.foldl (Yard.setLeave e n) y))

/-- Step 3: the listed buses in the lane, in the order listed. -/
def Yard.setIn (n : Nat) (fleets : List Nat) (y : Yard) : Yard :=
  fleets.foldl (fun y f => y.place f (.inLane n)) (y.setLane n (fun l => { l with occupants := fleets }))

/-- Step 4: a release for a bus that is not at the exit end withdrawn. -/
def Yard.setWithdraw (e : Env) (n : Nat) (y : Yard) : Yard :=
  if (y.lane? n).any Lane.boxedIn then y.withdrawRelease e n none else y

/-- Step 5: no MISMATCH, and OVERFULL as the places say. -/
def Yard.setFlags (e : Env) (n : Nat) (y : Yard) : Yard := (y.clearMismatch n).settleOverfull e n

/-- After step 6, the capacity rule: the inversions, the sign, the dropped PARK steps re-run, and the berth wait list if it is due. -/
def Yard.setEnd (e : Env) (n : Nat) (due : Bool) (fitted : Yard × Evictions) : Yard :=
  let rerun := ((fitted.1.recountInversions e n).updateSign n).rerunDropped e fitted.2
  (if due then rerun.rerunWaits e else rerun).raise

/-- LANE_SET taken, by its steps (R119). -/
theorem Yard.laneSet_eq (found : y.lane? n = some l) :
    let in_ := (y.setOut e n fleets l).setIn n fleets
    let fitted := ((in_.setWithdraw e n).setFlags e n).capacityRule e n 0
    y.laneSet e n fleets =
      Yard.setEnd e n
        (fleets.any (fun f => ((y.bus? f).bind (fun b => b.position.lane?)).any (· != n)) ||
          fleets.any (fun f => (y.reservation? f).isSome) || !(l.occupants.filter (fun f => !fleets.contains f)).isEmpty ||
          ((in_.lane? n).any Lane.boxedIn && (in_.lane? n).any in_.shuntsFrom) || l.mismatch ||
          decide (0 < fitted.2.count)) fitted := by
  intro in_ fitted
  unfold Yard.laneSet
  rw [found]
  rfl

namespace Yard.Framed

/-- Step 1. -/
theorem setFree (y : Yard) : y.Moved (fleets.foldl (Yard.setUnreserve e) (fleets.foldl (Yard.setLeave e n) y)) :=
  (foldl (fun y f => setLeave f y) fleets y).trans (foldl (fun y f => (setUnreserve f y).moved) fleets _)

theorem setOut (y : Yard) : y.Moved (y.setOut e n fleets l) := (setFree y).trans (placeAll .loose _ _)

theorem setIn (y : Yard) : y.Moved (y.setIn n fleets) := (setLane (by intro; rfl) y).trans (placeAll _ _ _)

theorem setWithdraw (y : Yard) : y.Stands (y.setWithdraw e n) := by
  unfold Yard.setWithdraw
  split
  · exact withdrawRelease _ y
  · exact refl y

theorem setFlags (y : Yard) : Framed Bus.standing Lane.build y (y.setFlags e n) := by
  have agreed : Framed Bus.standing Lane.build y (y.clearMismatch n) := setLane (by intro; rfl) y
  refine agreed.trans ?_
  unfold Yard.setFlags Yard.settleOverfull
  split
  · exact refl _
  · split
    · exact setOverfull _
    · exact recheckOverfull _

theorem setEnd (due : Bool) (fitted : Yard × Evictions) : fitted.1.Stands (Yard.setEnd e n due fitted) := by
  have rerun := ((recountInversions (e := e) (n := n) fitted.1).trans (updateSign (n := n) _)).trans
    (rerunDropped (e := e) fitted.2 _)
  cases due
  · exact rerun.trans (raise _)
  · exact (rerun.trans (rerunWaits _)).trans (raise _)

/-- A lane over its capacity is overfull already, so the capacity rule leaves its flag. -/
theorem capacityRule (found : y.lane? n = some l) (flag : l.overfull = decide (l.capacity < y.occupied l)) (f : Nat) :
    y.Stands (y.capacityRule e n f).1 := by
  have evicted := evict (e := e) (n := n) l.reservations.length y { count := 0, reruns := [] }
  rw [Yard.capacityRule_eq found]
  split
  · next exceeds =>
    rw [decide_eq_true exceeds] at flag
    have standing := evicted.lane (fun v => v.1.1) (by intro; rfl) n
    rw [found] at standing
    obtain ⟨m, foundAfter, same⟩ := Option.map_eq_some_iff.1 standing
    have full : m.overfull = true := (congrArg (fun v => v.2.2.2) same).trans flag
    rw [Yard.setOverfull_eq foundAfter, if_pos full]
    exact evicted
  · exact evicted

end Yard.Framed

/-- The places of a bus are those of its build. -/
theorem Yard.Framed.busPlaces {z : Yard} (h : y.Moved z) (f : Nat) : z.busPlaces f = y.busPlaces f := by
  have places (y : Yard) : y.busPlaces f = (((y.bus? f).map Bus.build).map (fun v => v.2.places)).getD 0 := by
    unfold Yard.busPlaces
    cases y.bus? f <;> rfl
  rw [places, places, h.bus Prod.fst (by intro; rfl)]

/-- A bus is known as before. -/
theorem Yard.Framed.known {α : Type} {z : Yard} (h : y.Moved z) (c : α) (f : Nat) :
    (z.bus? f).map (fun _ => c) = (y.bus? f).map (fun _ => c) := by
  have same := congrArg (Option.map (fun _ => c)) (h.bus Prod.fst (by intro; rfl) f)
  rw [Option.map_map, Option.map_map] at same
  exact same

/-- The lane after step 5. -/
theorem Yard.setFlags_lane (found : y.lane? n = some l) : (y.setFlags e n).lane? n =
    some { l with mismatch := false, overfull := decide (l.capacity < y.occupied l) } := by
  let m : Lane := { l with mismatch := false }
  have agreed : (y.clearMismatch n).lane? n = some m := Yard.lane_setLane_found found _ (by intro; rfl)
  have occupied : (y.clearMismatch n).occupied m = y.occupied l := rfl
  have settled : y.setFlags e n =
      if l.capacity < y.occupied l then (y.clearMismatch n).setOverfull e n 0 else (y.clearMismatch n).recheckOverfull n := by
    simp only [Yard.setFlags, Yard.settleOverfull, agreed, occupied, m]
  rw [settled]
  split
  · next exceeds =>
    rw [Yard.setOverfull_eq agreed, decide_eq_true exceeds]
    split
    · next full =>
      rw [agreed, ← full]
    · exact Yard.lane_setLane_found agreed _ (by intro; rfl)
  · next fits =>
    rw [Yard.recheckOverfull_eq agreed, decide_eq_false fits]
    split
    · exact Yard.lane_setLane_found agreed _ (by intro; rfl)
    · next clear =>
      have flag : l.overfull = false := Bool.eq_false_iff.2 fun full => clear ⟨full, Nat.not_lt.1 fits⟩
      rw [agreed]
      exact congrArg (fun flag => some { l with mismatch := false, overfull := flag }) flag

/-- From `y` to `z` the lane is set to a list of buses (R119). -/
structure Yard.SetTo (n : Nat) (fleets : List Nat) (l : Lane) (y z : Yard) : Prop where
  occupants : (z.lane? n).map Lane.occupants = some fleets
  mismatch : (z.lane? n).map Lane.mismatch = some false
  overfull : (z.lane? n).map Lane.overfull = some (decide (l.capacity < (fleets.map y.busPlaces).sum))
  listed : ∀ f ∈ fleets, (y.bus? f).isSome → (z.bus? f).map Bus.position = some (.inLane n)
  unlisted : ∀ f ∈ l.occupants, f ∉ fleets → (z.bus? f).map Bus.position = (y.bus? f).map (fun _ => .loose)
  moved : y.Moved z

/-- What a LANE_SET taken leaves (R119). -/
theorem Yard.laneSet_setTo (e : Env) (fleets : List Nat) (found : y.lane? n = some l) :
    Yard.SetTo n fleets l y (y.laneSet e n fleets) := by
  let out := y.setOut e n fleets l
  let in_ := out.setIn n fleets
  let flagged := (in_.setWithdraw e n).setFlags e n
  let z := y.laneSet e n fleets
  have entered : y.Moved in_ := (Framed.setOut y).trans (Framed.setIn out)
  have withdrawn : in_.Stands (in_.setWithdraw e n) := Framed.setWithdraw in_
  obtain ⟨m, foundIn, occupants, capacity⟩ : ∃ m, in_.lane? n = some m ∧ m.occupants = fleets ∧ m.capacity = l.capacity := by
    have build := (Framed.setOut (e := e) (n := n) (fleets := fleets) (l := l) y).lane Prod.fst (by intro; rfl) n
    rw [found] at build
    obtain ⟨k, foundOut, same⟩ := Option.map_eq_some_iff.1 build
    refine ⟨{ k with occupants := fleets }, ?_, rfl, congrArg Prod.snd same⟩
    exact (Yard.lane_placeAll _ _ _ _).trans (Yard.lane_setLane_found foundOut _ (by intro; rfl))
  obtain ⟨k, foundWithdrawn, same⟩ : ∃ k, (in_.setWithdraw e n).lane? n = some k ∧ k.standing = m.standing := by
    have standing := withdrawn.lane (fun v => v.1.1) (by intro; rfl) n
    rw [foundIn] at standing
    exact Option.map_eq_some_iff.1 standing
  have listedNow : k.occupants = fleets := (congrArg (fun v => v.2.1) same).trans occupants
  have places : (in_.setWithdraw e n).occupied k = (fleets.map y.busPlaces).sum := by
    rw [Yard.occupied, listedNow, funext (entered.trans withdrawn.moved).busPlaces]
  have holds : k.capacity = l.capacity := (congrArg (fun v => v.1.2) same).trans capacity
  have foundFlagged : flagged.lane? n = some _ := Yard.setFlags_lane foundWithdrawn
  have flags : Framed Bus.standing Lane.build (in_.setWithdraw e n) flagged := Framed.setFlags _
  have fitted : flagged.Stands z := by
    have same : flagged.occupied k = (in_.setWithdraw e n).occupied k := by
      rw [Yard.occupied, funext (flags.coarser Prod.fst id).busPlaces]
      rfl
    have rule : flagged.Stands (flagged.capacityRule e n 0).1 :=
      Framed.capacityRule foundFlagged (congrArg (fun p => decide (k.capacity < p)) same.symm) 0
    rw [show z = _ from Yard.laneSet_eq found]
    exact rule.trans (Framed.setEnd _ _)
  have lane : (z.lane? n).map Lane.standing = some (k.build, fleets, false, decide (l.capacity < (fleets.map y.busPlaces).sum)) := by
    rw [fitted.lane (fun v => v.1.1) (by intro; rfl), foundFlagged, ← places, ← holds, ← listedNow]
    rfl
  have reads {α : Type} {p : Lane → α} (q : (Nat × Nat) × List Nat × Bool × Bool → α) (keyed : ∀ l, q l.standing = p l) :
      (z.lane? n).map p = some (q (k.build, fleets, false, decide (l.capacity < (fleets.map y.busPlaces).sum))) := by
    rw [← Option.map_some (f := q), ← lane, Option.map_map]
    exact congrArg (fun g => (z.lane? n).map g) (funext fun l => (keyed l).symm)
  have position (f : Nat) : (z.bus? f).map Bus.position = (in_.bus? f).map Bus.position := by
    have stands : in_.Framed Bus.standing Lane.build z :=
      ((withdrawn.coarser id Prod.fst).trans flags).trans (fitted.coarser id Prod.fst)
    have same := congrArg (Option.map Prod.snd) (stands.bus (fun v => v.1.1) (by intro; rfl) f)
    rw [Option.map_map, Option.map_map] at same
    exact same
  have placed (f : Nat) : (in_.bus? f).map Bus.position =
      if f ∈ fleets then (out.bus? f).map (fun _ => .inLane n) else (out.bus? f).map Bus.position :=
    Yard.position_placeAll _ f fleets _
  refine ⟨reads (fun v => v.2.1) (by intro; rfl), reads (fun v => v.2.2.1) (by intro; rfl), reads (fun v => v.2.2.2) (by intro; rfl),
    fun f listed known => ?_, fun f occupant unlisted => ?_,
    ((entered.trans withdrawn.moved).trans (flags.coarser Prod.fst id)).trans fitted.moved⟩
  · rw [position, placed, if_pos listed, (Framed.setOut y).known]
    obtain ⟨b, hb⟩ := Option.isSome_iff_exists.1 known
    rw [hb]
    rfl
  · have removed : f ∈ l.occupants.filter (fun f => !fleets.contains f) := by simp [occupant, unlisted]
    rw [position, placed, if_neg unlisted]
    refine (Yard.position_placeAll .loose f _ _).trans ?_
    rw [if_pos removed, (Framed.setFree y).known]

end

end Sys2Proof.Machine
end

section
/-!
PROOFS. LANE_SET (O42): the list its request carries, its checks, and the statement's steps as the model's.
-/
namespace Sys2Proof.Machine

section

variable {listed : List Word} (high : listed.length < 256) (tag number : Byte)

/-- A LANE_SET request. -/
def laneSetBody (tag number : Byte) (listed : List Word) : List Byte :=
  request 0x2E tag (number :: (u8 listed.length ++ (listed.map (fun f => u16 f.toNat)).flatten))

include high

theorem laneSetBody_count : byteAt (laneSetBody tag number listed) 3 = listed.length := by
  simp [laneSetBody, request, byteAt, u8, Nat.mod_eq_of_lt high]

/-- The fleet numbers that a LANE_SET carries. -/
theorem laneSetBody_listed :
    (listAt 2 3 (laneSetBody tag number listed)).map (fun i => wordAt i 0) = listed.map (fun f => f.toNat) := by
  have items : listAt 2 3 (laneSetBody tag number listed) = listed.map (fun f => u16 f.toNat) := by
    rw [listAt, laneSetBody_count high, ← List.length_map (fun f : Word => u16 f.toNat)]
    refine itemsAt_flatten (fun x hx => ?_) rfl
    obtain ⟨f, -, rfl⟩ := List.mem_map.1 hx
    rfl
  rw [items, List.map_map]
  exact congrArg (listed.map ·) (funext fun f => word_bytes f)

/-- A LANE_SET has the length its count gives (R183). -/
theorem laneSetBody_counted : counted 3 2 0 255 (laneSetBody tag number listed) = true := by
  have bytes : ((listed.map (fun f => u16 f.toNat)).flatten).length = 2 * listed.length := by
    rw [List.length_flatten, List.map_map, show List.length ∘ (fun f : Word => u16 f.toNat) = fun _ => 2 from rfl,
      List.map_const', List.sum_replicate, smul_eq_mul, Nat.mul_comm]
  have total : (laneSetBody tag number listed).length = 4 + 2 * listed.length := by
    simp only [laneSetBody, request, u8, List.length_cons, List.length_append, List.length_nil, bytes]
    omega
  simp only [counted, laneSetBody_count high, total, Bool.and_eq_true, decide_eq_true_eq, beq_iff_eq, and_true]
  omega

end

section

variable {s : State} {tag number : Byte} {listed : List Word}

/-- A listed bus is CALLED or SERVING. -/
theorem Yard.calledOrServed_iff (y : Yard) (f : Nat) : y.calledOrServed f = true ↔
    (y.bus? f).map Bus.wait = some .called ∨ (y.bus? f).map Bus.wait = some .serving := by
  unfold Yard.calledOrServed
  cases known : y.bus? f with
  | none => simp [Yard.waitIn, known]
  | some b => simp [Yard.waitIn_iff known]

/-- The ranges a LANE_SET's fields are in (R119). -/
def laneSetRange (number : Byte) (listed : List Word) : Prop :=
  1 ≤ number.toNat ∧ number.toNat ≤ 24 ∧ listed.length ≤ 12 ∧ (∀ f ∈ listed, fleetValid f) ∧ listed.Nodup

/-- LANE_SET's range test. -/
theorem laneSetRange_iff :
    ¬ (laneOk number.toNat = false ∨ 12 < (listed.map (fun f => f.toNat)).length ∨
      (listed.map (fun f => f.toNat)).all fleetOk = false ∨ noRepeats (listed.map (fun f => f.toNat)) = false) ↔
      laneSetRange number listed := by
  have valid : (listed.map (fun f => f.toNat)).all fleetOk = true ↔ ∀ f ∈ listed, fleetValid f := by
    simp only [List.all_map, List.all_eq_true, Function.comp_apply, fleetOk_iff]
  have once : noRepeats (listed.map (fun f => f.toNat)) = true ↔ listed.Nodup := by
    rw [noRepeats_iff]
    exact List.nodup_map_iff (f := BitVec.toNat) (fun _ _ => BitVec.eq_of_toNat_eq)
  simp only [not_or, Bool.not_eq_false, laneOk_iff, valid, once, List.length_map, Nat.not_lt, laneSetRange, and_assoc]

/-- What a LANE_SET answers: the checks in order, then the lane set (R119). -/
structure AnswersLaneSet (s : State) (number : Byte) (listed : List Word) (body : List Byte) : Prop where
  badValue : ¬ laneSetRange number listed → Refused .laneSet s body .badValue
  notFound : laneSetRange number listed →
    s.yard.lane? number.toNat = none ∨ (∃ f ∈ listed, s.yard.bus? f.toNat = none) → Refused .laneSet s body .notFound
  wrongState : ∀ {l}, laneSetRange number listed → s.yard.lane? number.toNat = some l →
    (∀ f ∈ listed, (s.yard.bus? f.toNat).isSome) → l.hold = 0 ∨ (∃ f ∈ listed, s.yard.calledOrServed f.toNat = true) →
    Refused .laneSet s body .wrongState
  taken : ∀ {l}, laneSetRange number listed → s.yard.lane? number.toNat = some l →
    (∀ f ∈ listed, (s.yard.bus? f.toNat).isSome) → ¬ (l.hold = 0 ∨ ∃ f ∈ listed, s.yard.calledOrServed f.toNat = true) →
    Taken .laneSet s (s.withYard (s.yard.laneSet s.env number.toNat (listed.map (fun f => f.toNat)))) body []

theorem laneSet_answers (running : s.mode = .running) (high : listed.length < 256) (taken : s.Takes (laneSetBody tag number listed)) :
    AnswersLaneSet s number listed (laneSetBody tag number listed) := by
  let body := laneSetBody tag number listed
  have lane : byteAt body 2 = number.toNat := rfl
  have answered {t : State} {r : Reply} (act : setLaneList body s = (t, r)) :
      exec .laneSet s = .next (t.reply body r.result r.data) :=
    exec_acts rfl taken rfl (laneSetBody_counted high tag number) (inRunning_eq running) act
  unfold setLaneList at answered
  simp only [lane, body, laneSetBody_listed high] at answered
  have known_iff : ((listed.map (fun f => f.toNat)).all (fun f => (s.yard.bus? f).isSome)) = true ↔
      ∀ f ∈ listed, (s.yard.bus? f.toNat).isSome := by
    simp only [List.all_map, List.all_eq_true, Function.comp_apply]
  have served_iff : (listed.map (fun f => f.toNat)).any s.yard.calledOrServed = true ↔
      ∃ f ∈ listed, s.yard.calledOrServed f.toNat = true := by
    simp only [List.any_map, List.any_eq_true, Function.comp_apply]
  refine ⟨fun out => answered (r := .refuse .badValue) (if_pos (not_not.1 (mt laneSetRange_iff.1 out))),
    fun range absent => answered (r := .refuse .notFound) ((if_neg (laneSetRange_iff.2 range)).trans ?_),
    fun range found known bad => answered (r := .refuse .wrongState) ((if_neg (laneSetRange_iff.2 range)).trans ?_),
    fun range found known may => answered (r := .ok []) ((if_neg (laneSetRange_iff.2 range)).trans ?_)⟩
  · split
    · rfl
    · next found =>
      obtain ⟨f, hf, unknown⟩ := absent.resolve_left (by rw [found]; exact nofun)
      have missing : ¬ ∀ f ∈ listed, (s.yard.bus? f.toNat).isSome := fun all => by simpa [unknown] using all f hf
      exact if_pos (Bool.eq_false_iff.2 (mt known_iff.1 missing))
  · rw [found, known_iff.2 known]
    exact if_pos (bad.imp_right served_iff.2)
  · rw [found, known_iff.2 known]
    exact if_neg (mt (Or.imp_right served_iff.1) may)

end

section

variable {e : Env} {y : Yard} {n : Nat} {l : Lane} {fleets : List Nat}

/-! ### When the berth wait list is due -/

/-- A listed bus leaves another lane. -/
theorem Yard.anyElsewhere_iff (y : Yard) (n : Nat) (fleets : List Nat) :
    fleets.any (fun f => ((y.bus? f).bind (fun b => b.position.lane?)).any (· != n)) = true ↔
      ∃ f ∈ fleets, ∃ b k, y.bus? f = some b ∧ b.position = .inLane k ∧ k ≠ n := by
  rw [List.any_eq_true]
  refine exists_congr fun f => and_congr_right fun _ => ?_
  cases known : y.bus? f with
  | none => simp
  | some b => cases position : b.position <;> simp [Position.lane?, position]

/-- A listed bus holds a reservation. -/
theorem Yard.anyReserved_iff (y : Yard) (fleets : List Nat) :
    fleets.any (fun f => (y.reservation? f).isSome) = true ↔ ∃ f ∈ fleets, y.reservation? f ≠ none := by
  simp only [List.any_eq_true, Option.isSome_iff_ne_none]

/-- The release of a lane stands for a shunt that has not ended. -/
theorem Yard.anyShuntsFrom_iff (y : Yard) (n : Nat) : (y.lane? n).any y.shuntsFrom = true ↔
    ∃ m g h r, y.lane? n = some m ∧ m.release = some (g, .shunt) ∧ y.reservation? g = some (h, r) ∧ r.kind = .shunt := by
  cases found : y.lane? n with
  | none => simp
  | some m =>
    cases claim : m.release with
    | none => simp [Yard.shuntsFrom, claim]
    | some c =>
      obtain ⟨g, reason⟩ := c
      cases held : y.reservation? g with
      | none => simp [Yard.shuntsFrom_eq, claim, held]
      | some h => simp [Yard.shuntsFrom_eq, claim, held, Prod.ext_iff]

/-! ### The statement's steps -/

theorem Lane.boxedIn_any (l : Lane) : l.boxedIn = l.release.any (fun r => l.occupants.head? != some r.1) := by
  unfold Lane.boxedIn
  cases l.release <;> rfl

/-- The plan of a bus whose reservation was used, by what it waits for (R104 step 9). -/
theorem Yard.entryTaken_waits (f : Nat) (kind : ReservationKind) (y : Yard) : y.entryTaken e f kind =
    match y.bus? f with
    | none => y
    | some c =>
      if c.wait ≠ .entry then y
      else if kind = .shunt then
        y.setBus f (fun c => { c with wait := c.shuntMarker.getD c.wait, shuntMarker := none })
      else y.advanceSteps e f 16 none (c.cursor.getD 0 + 1) := by
  rw [Yard.entryTaken_match]
  simp only [ite_not]
  cases y.bus? f with
  | none => exact ite_self y
  | some c => cases kind <;> rfl

/-- The position of a bus set (R60). -/
theorem Yard.place_match (pos : Position) (f : Nat) (y : Yard) : y.place f pos =
    match y.bus? f with
    | none => y
    | some b =>
      let set := y.setBus f (fun b => { b with position := pos })
      if pos = .loose ∧ b.position ≠ .loose ∧ b.wait = .turn then set.raise else set := by
  unfold Yard.place
  cases y.bus? f <;> rfl

/-- A listed bus leaves another lane (R119 step 1). -/
theorem Yard.setLeave_match (f : Nat) (y : Yard) : y.setLeave e n f =
    match (y.bus? f).map Bus.position with
    | some (.inLane m) => if m = n then y else y.leaveLane e f m
    | _ => y := by
  unfold Yard.setLeave
  rcases y.bus? f with _ | b
  · rfl
  · cases position : b.position <;> simp [Position.lane?, position]

/-- A listed bus's reservation removed, and its plan told (R119 step 1). -/
theorem Yard.setUnreserve_match (f : Nat) (y : Yard) : y.setUnreserve e f =
    match y.reservation? f with
    | none => y
    | some (m, r) =>
      let dropped := y.dropReservation m f
      (if r.kind = .shunt then dropped.releaseClaim f .shunt else dropped).entryTaken e f r.kind := by
  unfold Yard.setUnreserve
  rcases y.reservation? f with _ | ⟨m, r⟩
  · rfl
  · dsimp only
    cases r.kind <;> rfl

end

/-- Settles O42: the checks by the request's; the steps are the model's, and what they leave is that of a lane set. -/
theorem laneSet : Obligations.LaneSet := by
  intro s tag number listed running high body n y inRange taken
  have checks : AnswersLaneSet s number listed body := laneSet_answers running (by omega) taken
  refine ⟨checks.badValue, checks.notFound, fun l range found known => ?_⟩
  intro bad
  have bad_iff : (l.hold = 0 ∨ ∃ f ∈ listed, y.calledOrServed f.toNat = true) ↔ bad := by
    simp only [Yard.calledOrServed_iff]
    rfl
  refine ⟨fun refused => checks.wrongState range found known (bad_iff.2 refused), fun may => ?_⟩
  have answer := checks.taken range found known (mt bad_iff.1 may)
  intro e fleets placed left unreserved unlisted step1 step2 step3 boxed step4 agreed step5 step6 step7 rerun cancelled due
  have placed_eq (pos : Position) : placed pos = fun z f => z.place f pos :=
    funext fun z => funext fun f => (Yard.place_match pos f z).symm
  have left_eq : left = Yard.setLeave e n := funext fun z => funext fun f => (Yard.setLeave_match f z).symm
  have unreserved_eq : unreserved = Yard.setUnreserve e := by
    funext z f
    rw [Yard.setUnreserve_match]
    simp only [Yard.entryTaken_waits]
    rfl
  have unlisted_eq : unlisted = l.occupants.filter (fun f => !fleets.contains f) := by
    refine List.filter_congr fun f _ => ?_
    simp
  have step2_eq : step2 = y.setOut e n fleets l := by
    dsimp only [step2, step1]
    rw [placed_eq, left_eq, unreserved_eq, unlisted_eq]
    rfl
  have step3_eq : step3 = step2.setIn n fleets := by
    dsimp only [step3]
    rw [placed_eq]
    rfl
  have boxed_eq : boxed = (step3.lane? n).any Lane.boxedIn := by
    dsimp only [boxed]
    rw [funext Lane.boxedIn_any]
  have step4_eq : step4 = step3.setWithdraw e n := by
    dsimp only [step4]
    rw [boxed_eq]
    rfl
  have step5_eq : step5 = step4.setFlags e n := by
    dsimp only [step5]
    have agreed_eq : step4.clearMismatch n = agreed := rfl
    rw [Yard.setFlags, agreed_eq]
    unfold Yard.settleOverfull
    cases agreed.lane? n <;> rfl
  have rerun_eq : rerun = step7.rerunDropped e step6.2 :=
    congrArg (fun op => step6.2.reruns.foldl op step7)
      (funext fun z => funext fun d => (Yard.reservationDropped_match d z).symm)
  have cancelled_iff : ((step3.lane? n).any Lane.boxedIn && (step3.lane? n).any step3.shuntsFrom) = true ↔ cancelled := by
    rw [Bool.and_eq_true, ← boxed_eq, Yard.anyShuntsFrom_iff]
  have unlisted_iff : (!unlisted.isEmpty) = true ↔ unlisted ≠ [] := by
    rw [Bool.not_eq_true', ← Bool.not_eq_true, List.isEmpty_iff]
  obtain ⟨flag, flag_iff, ends⟩ : ∃ flag : Bool, (flag = true ↔ due) ∧ y.laneSet e n fleets = Yard.setEnd e n flag step6 := by
    have model := Yard.laneSet_eq (e := e) (fleets := fleets) found
    dsimp only at model
    rw [← step2_eq, ← step3_eq, ← step4_eq, ← step5_eq, ← unlisted_eq] at model
    refine ⟨_, ?_, model⟩
    rw [Bool.or_eq_true, Bool.or_eq_true, Bool.or_eq_true, Bool.or_eq_true, Bool.or_eq_true, Yard.anyElsewhere_iff,
      Yard.anyReserved_iff, unlisted_iff, cancelled_iff, decide_eq_true_iff, or_assoc, or_assoc, or_assoc, or_assoc]
  have ends : y.laneSet e n fleets = (if flag = true then rerun.rerunWaits e else rerun).raise := by
    rw [rerun_eq]
    exact ends
  have after : Yard.SetTo n fleets l y (y.laneSet e n fleets) := Yard.laneSet_setTo e fleets found
  refine ⟨_, answer, fun holds => ends.trans (congrArg Yard.raise (if_pos (flag_iff.2 holds))),
    fun fails => ends.trans (congrArg Yard.raise (if_neg (mt flag_iff.1 fails))),
    after.occupants, after.mismatch, ?_, fun f hf => after.listed f.toNat (List.mem_map_of_mem hf) (known f hf),
    fun f occupant unlisted => after.unlisted f occupant fun hf => ?_, after.moved.silent, after.moved.stations, after.moved.departures,
    after.moved.pullout, after.moved.pacing, after.moved.frost, after.moved.inFlight⟩
  · rw [after.overfull, List.map_map]
    rfl
  · obtain ⟨g, hg, same⟩ := List.mem_map.1 hf
    exact unlisted g hg same

end Sys2Proof.Machine
end

section
/-!
PROOFS. The pull-out's requests and the two queries (O22, O47), and a pacing expiry (O48): the swap search, the head that is kept, Table
7-3's cases, a swap and a release.
-/
namespace Sys2Proof.Machine

/-! ### PULLOUT_START and PULLOUT_STOP -/

/-- PULLOUT_START of a pull-out that runs (R127). -/
theorem startPullout_running {s : State} (running : s.yard.pullout = true) (b : List Byte) :
    startPullout b s = (s, .refuse .wrongState) := if_pos running

/-- PULLOUT_START in OFF (R127). -/
theorem startPullout_off {s : State} (off : s.yard.pullout = false) (b : List Byte) : startPullout b s =
    (s.withYard { s.yard with pullout := true, pacing := some s.env.params.pacingInterval }, .ok []) :=
  if_neg (by rw [off]; decide)

/-- PULLOUT_STOP in OFF (R127). -/
theorem stopPullout_off {s : State} (off : s.yard.pullout = false) (b : List Byte) :
    stopPullout b s = (s, .refuse .wrongState) := if_neg (by rw [off]; decide)

/-- PULLOUT_STOP of a pull-out that runs (R127). -/
theorem stopPullout_running {s : State} (running : s.yard.pullout = true) (b : List Byte) : stopPullout b s =
    (s.withYard { s.yard with pullout := false, pacing := none }, .ok []) := if_pos running

/-- Settles O47: each row's request by the pull-out mode it finds. -/
theorem pullOutStartedAndStopped : Obligations.PullOutStartedAndStopped := by
  intro s tag running
  have mode : inRunning s.mode = true := inRunning_eq running
  refine ⟨?_, ?_⟩
  · intro body taken
    exact ⟨fun on => exec_acts (c := .pulloutStart) rfl taken rfl rfl mode (startPullout_running on body),
      fun off => exec_acts (c := .pulloutStart) rfl taken rfl rfl mode (startPullout_off off body)⟩
  · intro body taken
    exact ⟨fun off => exec_acts (c := .pulloutStop) rfl taken rfl rfl mode (stopPullout_off off body),
      fun on => exec_acts (c := .pulloutStop) rfl taken rfl rfl mode (stopPullout_running on body)⟩

/-! ### DEPART_QUERY and STATION_QUERY -/

/-- An entry that is neither RELEASED nor OUTBOUND (R122). -/
theorem Departure.unreleased_eq :
    (fun d : Departure => d.state.unreleased) = fun d => d.state != .released && d.state != .outbound := by
  funext d
  cases d.state <;> rfl

/-- A station address in its range (R154, R158). -/
theorem addressOk_iff (a : Nat) : addressOk a = true ↔ 1 ≤ a ∧ a ≤ 63 := by simp [addressOk]

/-- DEPART_QUERY's reply data with its list's count byte written out (R141). -/
theorem Yard.departList_eq (y : Yard) (start : Nat) : y.departList start =
    u8 (if y.pullout then 1 else 0) ++ u16 (y.pacing.getD 0) ++ u8 y.departures.length ++
      u8 ((y.departures.findIdx? (fun d => d.state != .released && d.state != .outbound)).getD 255) ++
      u8 ((y.departures.drop start).take 16).length ++
      (((y.departures.drop start).take 16).map y.departBytes).flatten := by
  rw [Yard.departList, Departure.unreleased_eq, listBytes_map, ← List.append_assoc]
  rfl

/-- STATION_QUERY's reply data in RUNNING: the station records from an address on (R158). -/
theorem State.stationList_running {s : State} (mode : s.mode = .running) (start : Nat) :
    let listed := (s.yard.stations.filter (fun t => start ≤ t.address)).take 31
    s.stationList start =
      u8 s.yard.cmdQueue.length ++ u8 s.line.asks.length ++ u8 (holderCode s.line.holder) ++ u8 listed.length ++
        (listed.map s.yard.stationBytes).flatten := by
  intro listed
  simp only [State.stationList, State.stationEntries, mode]
  rw [listBytes_map, ← List.append_assoc]

/-- STATION_QUERY's reply data in UNCONFIGURED: the station definitions from an address on (R158). -/
theorem State.stationList_unconfigured {s : State} (mode : s.mode = .unconfigured) (start : Nat) :
    let listed := (s.layout.stations.filter (fun t => start ≤ t.address)).take 31
    s.stationList start =
      u8 s.yard.cmdQueue.length ++ u8 s.line.asks.length ++ u8 (holderCode s.line.holder) ++ u8 listed.length ++
        (listed.map StationDef.bytes).flatten := by
  intro listed
  simp only [State.stationList, State.stationEntries, mode]
  rw [listBytes_map, ← List.append_assoc]

/-- Settles O22: the range of the start, then the reply data with the count byte of its list written out. -/
theorem departuresAndStationsQueried : Obligations.DeparturesAndStationsQueried := by
  intro s tag start y
  refine ⟨?_, ?_⟩
  · intro body listed running taken
    have answered {r : Reply} (act : queryDepartures body s = (s, r)) :
        exec .departQuery s = .next (s.reply body r.result r.data) := exec_acts rfl taken rfl rfl (inRunning_eq running) act
    refine ⟨fun past => answered (r := .refuse .badValue) (if_neg (Nat.not_le.2 past)), fun within => ?_⟩
    refine (answered (r := .ok (y.departList start.toNat)) (if_pos within)).trans ?_
    exact congrArg (fun data => Host.Outcome.next (s.reply body .ok data)) (y.departList_eq start.toNat)
  · intro body head taken
    have answered {r : Reply} (act : queryStations body s = (s, r)) :
        exec .stationQuery s = .next (s.reply body r.result r.data) := exec_acts rfl taken rfl rfl (anyMode_eq _) act
    have listed {data : List Byte} (low : 1 ≤ start.toNat) (high : start.toNat ≤ 63)
        (shows : s.stationList start.toNat = data) : Taken .stationQuery s s body data :=
      (answered (r := .ok (s.stationList start.toNat)) (if_pos ((addressOk_iff _).2 ⟨low, high⟩))).trans
        (congrArg (fun data => Host.Outcome.next (s.reply body .ok data)) shows)
    refine ⟨fun out => answered (r := .refuse .badValue) (if_neg fun ok => ?_),
      fun low high running => listed low high (State.stationList_running running _),
      fun low high unconfigured => listed low high (State.stationList_unconfigured unconfigured _)⟩
    have range : 1 ≤ start.toNat ∧ start.toNat ≤ 63 := (addressOk_iff _).1 ok
    omega

/-! ### The swap search (R132) -/

/-- The entry's bus stands ready in lane `n`, and is of the route class (R129, R132). -/
def Yard.Swappable (y : Yard) (routeClass : Nat) (x : Departure) (n : Nat) : Prop :=
  ∃ c l, y.bus? x.bus = some c ∧ (c.wait = .ended ∨ c.wait = .noPlan) ∧ c.position = .inLane n ∧ y.lane? n = some l ∧
    l.claimable x.bus = true ∧ 0 < c.age ∧ c.routeClass = routeClass

section

variable {y : Yard} {f n routeClass : Nat} {x : Departure} {after rest : List Departure}

/-- The plan waits that R129 asks for. -/
theorem Bus.finished_iff (b : Bus) : b.finished = true ↔ b.wait = .ended ∨ b.wait = .noPlan := by simp [Bus.finished]

/-- A bus that is not in a lane has no lane. -/
theorem Position.lane_none {p : Position} (elsewhere : ∀ n, p ≠ .inLane n) : p.lane? = none := by
  cases p with
  | inLane n => exact absurd rfl (elsewhere n)
  | outside | loose | atPoint p => rfl

/-- The lane of a position is the lane it stands in. -/
theorem Position.lane_iff (p : Position) (n : Nat) : p.lane? = some n ↔ p = .inLane n := by
  cases p <;> simp [Position.lane?]

/-- The lane of a ready bus (R129). -/
theorem Yard.readyLane_iff : y.readyLane? f = some n ↔
    ∃ b l, y.bus? f = some b ∧ b.finished = true ∧ b.position = .inLane n ∧ y.lane? n = some l ∧ l.claimable f = true ∧
      0 < b.age := by
  constructor
  · intro ready
    unfold Yard.readyLane? at ready
    split at ready
    · cases ready
    · next b found =>
      split at ready
      · cases ready
      · next l there =>
        obtain ⟨m, stands, lane⟩ := Option.bind_eq_some_iff.1 there
        split at ready
        · next tests =>
          obtain ⟨⟨finished, claimable⟩, sighted⟩ : (b.finished = true ∧ l.claimable f = true) ∧ 0 < b.age := by
            simpa using tests
          obtain rfl : m = n := (Yard.lane_number lane).symm.trans (Option.some.inj ready)
          exact ⟨b, l, found, finished, (Position.lane_iff _ _).1 stands, lane, claimable, sighted⟩
        · cases ready
  · rintro ⟨b, l, found, finished, stands, lane, claimable, sighted⟩
    have there : b.position.lane?.bind y.lane? = some l := by
      rw [stands]
      exact lane
    simp [Yard.readyLane?, found, there, finished, claimable, sighted, Yard.lane_number lane]

/-- An entry that may swap ends the search. -/
theorem Yard.swapCandidate_found (swappable : y.Swappable routeClass x n) :
    y.swapCandidate routeClass (x :: rest) = some (x.bus, n) := by
  obtain ⟨c, l, found, finished, stands, lane, claimable, sighted, cls⟩ := swappable
  have ready : y.readyLane? x.bus = some n :=
    Yard.readyLane_iff.2 ⟨c, l, found, c.finished_iff.2 finished, stands, lane, claimable, sighted⟩
  simp [Yard.swapCandidate, ready, found, cls]

/-- An entry that may not swap is passed over. -/
theorem Yard.swapCandidate_passed (passed : ∀ m, ¬ y.Swappable routeClass x m) :
    y.swapCandidate routeClass (x :: rest) = y.swapCandidate routeClass rest := by
  rw [Yard.swapCandidate]
  split
  · next m ready =>
    obtain ⟨c, l, found, finished, stands, lane, claimable, sighted⟩ := Yard.readyLane_iff.1 ready
    refine if_neg fun same => passed m ?_
    exact ⟨c, l, found, c.finished_iff.1 finished, stands, lane, claimable, sighted, by simpa [found] using same⟩
  · rfl

/-- The search takes the first entry that may swap. -/
theorem Yard.swapCandidate_first (swappable : y.Swappable routeClass x n) :
    ∀ {before : List Departure}, (∀ z ∈ before, ∀ m, ¬ y.Swappable routeClass z m) →
      y.swapCandidate routeClass (before ++ x :: after) = some (x.bus, n)
  | [], _ => Yard.swapCandidate_found swappable
  | z :: before, passed => by
    obtain ⟨first, rest⟩ := List.forall_mem_cons.1 passed
    rw [List.cons_append, Yard.swapCandidate_passed first, Yard.swapCandidate_first swappable rest]

/-- The search ends without an entry when none may swap. -/
theorem Yard.swapCandidate_none :
    ∀ {window : List Departure}, (∀ z ∈ window, ∀ m, ¬ y.Swappable routeClass z m) → y.swapCandidate routeClass window = none
  | [], _ => rfl
  | z :: window, passed => by
    obtain ⟨first, rest⟩ := List.forall_mem_cons.1 passed
    rw [Yard.swapCandidate_passed first, Yard.swapCandidate_none rest]

/-- The window of a swap search (R132). -/
theorem Yard.swapWindow_eq (e : Env) (f : Nat) (y : Yard) : y.swapWindow e f =
    (((y.departures.dropWhile (fun d => d.bus != f)).drop 1).filter
      (fun d => d.state != .released && d.state != .outbound)).take e.params.swapWindow := by
  rw [Yard.swapWindow, Departure.unreleased_eq]

end

/-! ### A release and a swap (R131, R132) -/

section

variable {e : Env} {y : Yard} {d : Departure} {b : Bus} {f n : Nat}

/-- A release, its notice's slot that of the entry that holds the bus (R131). -/
theorem Yard.release_eq (n : Nat) (entry : y.departure? f = some d) : y.release e f n =
    ((y.writeClaim n f .depart).setDeparture f (fun d =>
      { d with state := .released, noticeSent := false, lapse := some (e.params.releaseLapse * 60) })).post e
        .released f (some (.lane n)) 0 d.slot := by
  have key : y.key f = d.slot := by
    simp only [Yard.key_eq, entry, Option.map_some, Option.getD_some]
  rw [← key]
  rfl

/-- An entry when bus `f` and bus `c` are exchanged: `c`'s old entry waits again (R132). -/
def Departure.exchanged (f c : Nat) (d : Departure) : Departure :=
  if d.bus = f then { d with bus := c }
  else if d.bus = c then { d with bus := f, state := .waiting, noticeSent := false, lapse := none }
  else d

/-- After the exchange an entry holds bus `c` exactly when it held bus `f`. -/
theorem Departure.exchanged_bus (f c : Nat) (x : Departure) : ((x.exchanged f c).bus == c) = (x.bus == f) := by
  unfold Departure.exchanged
  by_cases held : x.bus = f
  · simp [held]
  · by_cases other : x.bus = c
    · subst other
      simpa [held] using Ne.symm held
    · simp [held, other]

/-- The entry that held bus `f` is found under bus `c`. -/
theorem Yard.departure_exchanged (c : Nat) (entry : y.departure? f = some d) :
    ({ y with departures := y.departures.map (Departure.exchanged f c) } : Yard).departure? c = some { d with bus := c } := by
  have found : y.departures.find? (fun x => x.bus == f) = some d := entry
  have taken : d.exchanged f c = { d with bus := c } := if_pos (Yard.departure_bus entry)
  simp only [Yard.departure?, List.find?_map, Function.comp_def, Departure.exchanged_bus, found, Option.map_some, taken]

/-- A key change keeps the departure list (R97, R123). -/
theorem Yard.keyChanged_departures (e : Env) (f : Nat) (y : Yard) : (y.keyChanged e f).departures = y.departures :=
  (Yard.Berths.keyChanged (kinds := [.berthAssigned, .laneDisorder]) (by decide) (by decide) e f y).departures

/-- A swap: the buses exchanged, SWAPPED posted, both key changes handed, and a release from the head (R132). -/
theorem Yard.swap_eq (c n routeClass : Nat) (entry : y.departure? f = some d) : y.swap e f c n routeClass =
    (((((({ y with departures := y.departures.map (Departure.exchanged f c) } : Yard).post e .swapped c (some (.lane n))
      routeClass f).keyChanged e c).keyChanged e f).writeClaim n c .depart).setDeparture c (fun d =>
        { d with state := .released, noticeSent := false, lapse := some (e.params.releaseLapse * 60) })).post e
          .released c (some (.lane n)) 0 d.slot := by
  refine Yard.release_eq (d := { d with bus := c }) n (Eq.trans ?_ (Yard.departure_exchanged c entry))
  simp only [Yard.departure?, Yard.keyChanged_departures]
  rfl

/-! ### The head kept, or swapped (R132 to R134) -/

/-- A kept head whose HEAD_BLOCKED was posted before (R133). -/
theorem Yard.keepHead_told (state : DepartureState) (told : d.noticeSent = true) :
    y.keepHead e d b state = y.setDeparture d.bus (fun d => { d with state }) := if_pos told

/-- A kept head posts its HEAD_BLOCKED (R133). -/
theorem Yard.keepHead_untold (state : DepartureState) (untold : d.noticeSent = false) : y.keepHead e d b state =
    ((y.setDeparture d.bus (fun d => { d with state })).post e .headBlocked d.bus (b.position.lane?.map Place.lane) state.code
      d.slot).setDeparture d.bus (fun d => { d with noticeSent := true }) := if_neg (by rw [untold]; decide)

/-- A swap search that finds a bus. -/
theorem Yard.searchOrKeep_swaps {c : Nat} (state : DepartureState) (confirm : Option Nat)
    (found : y.swapCandidate b.routeClass (y.swapWindow e d.bus) = some (c, n)) :
    y.searchOrKeep e d b state confirm = y.swap e d.bus c n b.routeClass := by
  simp only [Yard.searchOrKeep, found]

/-- A swap search that finds none: the head is kept, and its confirmation asked where the case asks it (R134). -/
theorem Yard.searchOrKeep_keeps (state : DepartureState) (confirm : Option Nat)
    (unfound : y.swapCandidate b.routeClass (y.swapWindow e d.bus) = none) : y.searchOrKeep e d b state confirm =
      confirm.elim (y.keepHead e d b state) (fun n => (y.keepHead e d b state).wantConfirm n) := by
  simp only [Yard.searchOrKeep, unfound]
  cases confirm <;> rfl

/-! ### Table 7-3 -/

/-- A bus whose plan has not ended is LATE. -/
theorem Yard.assess_unfinished (unfinished : b.finished = false) : y.assess e d b = y.searchOrKeep e d b .late none :=
  if_pos unfinished

/-- A bus that is in no lane is LATE. -/
theorem Yard.assess_elsewhere (finished : b.finished = true) (elsewhere : ∀ n, b.position ≠ .inLane n) :
    y.assess e d b = y.searchOrKeep e d b .late none := by
  simp only [Yard.assess, finished, Position.lane_none elsewhere]
  rfl

/-- The cases of a bus whose plan has ended and that stands in a lane, in Table 7-3's order. -/
theorem Yard.assess_inLane {l : Lane} (finished : b.finished = true) (stands : b.position = .inLane n)
    (found : y.lane? n = some l) : y.assess e d b =
      if l.exitEnd ≠ some d.bus then y.searchOrKeep e d b .blocked none
      else if l.claimable d.bus = false then y.setDeparture d.bus (fun d => { d with state := .due })
      else if b.age = 0 then y.searchOrKeep e d b .confirming (some n)
      else y.release e d.bus n := by
  have there : b.position.lane?.bind y.lane? = some l := by
    rw [stands]
    exact found
  simp only [Yard.assess, finished, there, Yard.lane_number found]
  rfl

/-! ### The head at a pacing expiry (R128) -/

theorem Yard.takeHead_none (absent : y.head? = none) : y.takeHead e = y := by simp only [Yard.takeHead, absent]

/-- A head before its due time waits. -/
theorem Yard.takeHead_early (head : y.head? = some d) (early : e.clock < d.dueTime e) :
    y.takeHead e = y.setDeparture d.bus (fun d => { d with state := .waiting }) := by
  simp only [Yard.takeHead, head, if_pos early]

/-- A head at or past its due time is assessed. -/
theorem Yard.takeHead_due (head : y.head? = some d) (bus : y.bus? d.bus = some b) (due : d.dueTime e ≤ e.clock) :
    y.takeHead e = y.assess e d b := by
  simp only [Yard.takeHead, head, if_neg (Nat.not_lt.2 due), bus]

/-- A pacing expiry in OFF, or with no timer running, does nothing (log 1). -/
theorem Yard.pacingLapse_idle (e : Env) (idle : y.pullout = false ∨ y.pacing = none) : y.pacingLapse e = y := by
  refine if_neg ?_
  rintro ⟨running, runs⟩
  rcases idle with off | stopped
  · exact absurd (off.symm.trans running) (by decide)
  · rw [stopped] at runs
    cases runs

/-- A pacing expiry starts the next period and takes the head (R128). -/
theorem Yard.pacingLapse_runs (e : Env) (running : y.pullout = true) (runs : y.pacing.isSome = true) :
    y.pacingLapse e = ({ y with pacing := some e.params.pacingInterval } : Yard).takeHead e := if_pos ⟨running, runs⟩

end

/-- Settles O48: the head by its due time, a due one by its case of Table 7-3; three of the cases search for a swap first. -/
theorem pacingExpires : Obligations.PacingExpires := by
  intro s high e ends unreleased
  have lapses : ends (s.yard.pacingLapse e) := congrArg Host.Outcome.next (State.yardEvent_high high _)
  refine ⟨fun idle => ?_, fun running runs => ?_⟩
  · rwa [Yard.pacingLapse_idle e idle] at lapses
  intro y
  rw [Yard.pacingLapse_runs e running runs] at lapses
  have head : y.head? = y.departures.find? unreleased := by rw [Yard.head?, Departure.unreleased_eq]
  have taking {z : Yard} (takes : y.takeHead e = z) : ends z := takes ▸ lapses
  refine ⟨fun absent => taking (Yard.takeHead_none (head.trans absent)), ?_⟩
  intro d b first entry bus f due takes releases finished behind qualifies exchanged kept
  refine ⟨fun early => taking (Yard.takeHead_early (head.trans first) early), fun reached => ?_⟩
  have assessing {z : Yard} (assess : y.assess e d b = z) : ends z :=
    taking ((Yard.takeHead_due (head.trans first) bus reached).trans assess)
  have window : y.swapWindow e f = behind := Yard.swapWindow_eq e f y
  have searches {state : DepartureState} {confirm : Option Nat} (assess : y.assess e d b = y.searchOrKeep e d b state confirm) :
      kept state (fun z => confirm.elim z (fun n => z.wantConfirm n)) := by
    refine ⟨fun before x after n split passed qualified => assessing ?_, fun passed => ?_⟩
    · have found : y.swapCandidate b.routeClass (y.swapWindow e f) = some (x.bus, n) := by
        rw [window, split]
        exact Yard.swapCandidate_first qualified passed
      rw [assess, Yard.searchOrKeep_swaps state confirm found]
      exact Yard.swap_eq x.bus n b.routeClass entry
    · have unfound : y.swapCandidate b.routeClass (y.swapWindow e f) = none := by
        rw [window]
        exact Yard.swapCandidate_none passed
      have keeps := assess.trans (Yard.searchOrKeep_keeps state confirm unfound)
      exact ⟨fun told => assessing (by rw [keeps, Yard.keepHead_told state told]),
        fun untold => assessing (by rw [keeps, Yard.keepHead_untold state untold])⟩
  refine ⟨fun unfinished => searches (Yard.assess_unfinished ?_),
    fun ended elsewhere => searches (Yard.assess_elsewhere (b.finished_iff.2 ended) elsewhere), fun n l ended stands found => ?_⟩
  · exact Bool.eq_false_of_not_eq_true (mt b.finished_iff.1 unfinished)
  have byCase := Yard.assess_inLane (e := e) (d := d) (b.finished_iff.2 ended) stands found
  have atExit (claimable : l.claimable f = true) : l.exitEnd = some f := ((l.claimable_iff f).1 claimable).1
  refine ⟨fun behindOthers => searches (byCase.trans (if_pos behindOthers)), fun front barred => assessing ?_,
    fun claimable unsighted => searches (confirm := some n) ?_, fun claimable sighted => assessing ?_⟩
  · rw [byCase, if_neg (not_not.2 front), if_pos barred]
  · rw [byCase, if_neg (not_not.2 (atExit claimable)), if_neg (by rw [claimable]; decide), if_pos unsighted]
  · rw [byCase, if_neg (not_not.2 (atExit claimable)), if_neg (by rw [claimable]; decide), if_neg (Nat.ne_of_gt sighted)]
    exact Yard.release_eq n entry

end Sys2Proof.Machine
end

section
/-!
PROOFS. The yard line's answer windows: what a station frame's kind and payload read as, when an answer is VALID or GARBLED (R144), and
whether an exchange has its window open (R143). LINE_ASK and the end of an ask's window (O49).
-/
namespace Sys2Proof.Machine

/-! ### Reading an answer -/

section

variable {fits : Nat → Answer → Bool} {address kind : Byte} {payload : List Byte} {b : Answer}

/-- What an answer's kind and payload can read as, each kind with its length (Table 11-9). -/
theorem readAnswer_cases {kind : Nat} (read : readAnswer kind payload = some b) :
    (kind = 1 ∧ ∃ r, readReport payload = some r ∧ b = .report r) ∨ (kind = 2 ∧ payload = [] ∧ b = .accepted) ∨
      (kind = 3 ∧ payload.length = 1 ∧ 1 ≤ byteAt payload 0 ∧ b = .notReady (byteAt payload 0)) ∨
      (kind = 4 ∧ payload.length = 2 ∧ b = .ready (wordAt payload 0)) := by
  unfold readAnswer at read
  split at read
  · next report =>
    obtain ⟨r, reads, rfl⟩ := Option.map_eq_some_iff.1 read
    exact .inl ⟨report, r, reads, rfl⟩
  split at read
  · next accepted =>
    split at read
    · next empty => exact .inr (.inl ⟨accepted, empty, (Option.some.inj read).symm⟩)
    · cases read
  split at read
  · next notReady =>
    split at read
    · next status =>
      obtain ⟨length, known⟩ := status
      exact .inr (.inr (.inl ⟨notReady, length, known, (Option.some.inj read).symm⟩))
    · cases read
  split at read
  · next ready =>
    split at read
    · next value => exact .inr (.inr (.inr ⟨ready, value, (Option.some.inj read).symm⟩))
    · cases read
  · cases read

/-- A READY's payload is its value (Table 11-9). -/
theorem readAnswer_ready (value : Word) : readAnswer 4 (u16 value.toNat) = some (.ready value.toNat) :=
  congrArg (fun v => some (Answer.ready v)) (word_bytes value)

/-- A NOT_READY's payload is its status, which is not 0 (Table 11-9). -/
theorem readAnswer_notReady {status : Byte} (known : 1 ≤ status.toNat) : readAnswer 3 [status] = some (.notReady status.toNat) := by
  simp [readAnswer, byteAt, known]

/-- A frame in time with a good check is VALID where its answer reads and fits (R144). -/
theorem classify_valid (read : readAnswer kind.toNat payload = some b) (low : 1 ≤ address.toNat) (high : address.toNat ≤ 63)
    (fit : fits address.toNat b = true) :
    classify fits (.answer ((lineFrame (address :: kind :: payload)).map RxChar.byte) true) = .valid address.toNat b := by
  have reads : readAnswer (byteAt (address :: kind :: payload) 1) ((address :: kind :: payload).drop 2) = some b := read
  rw [classify_lineFrame (fields := address :: kind :: payload) (Nat.le_add_left 2 payload.length), reads]
  exact if_pos ⟨⟨low, high⟩, fit⟩

/-- A frame in time with a good check is GARBLED where its answer does not read, or reads as one that does not fit (R144). -/
theorem classify_misfit
    (misfit : ∀ b, readAnswer kind.toNat payload = some b → 1 ≤ address.toNat → address.toNat ≤ 63 →
      fits address.toNat b = false) :
    classify fits (.answer ((lineFrame (address :: kind :: payload)).map RxChar.byte) true) = .garbled := by
  rw [classify_lineFrame (fields := address :: kind :: payload) (Nat.le_add_left 2 payload.length)]
  cases read : readAnswer (byteAt (address :: kind :: payload) 1) ((address :: kind :: payload).drop 2) with
  | none => rfl
  | some b =>
    refine if_neg fun valid => ?_
    obtain ⟨⟨low, high⟩, fit⟩ := valid
    exact absurd ((misfit b read low high).symm.trans fit) (by decide)

end

/-! ### The window of a holder -/

section

variable {s : State} {holder : LineHolder}

/-- With RSTN high, the window of the holder's exchange is open (R143). -/
theorem State.windowOpen_open (high : s.rstnLow = false) (held : s.line.holder = some holder) (window : s.line.phase = .window) :
    s.windowOpen holder = true := by
  simp [State.windowOpen, high, held, window]

/-- No other holder's window is the holder's, and no other phase is a window (R143). -/
theorem State.windowOpen_shut (shut : s.line.holder ≠ some holder ∨ s.line.phase ≠ .window) : s.windowOpen holder = false := by
  rcases shut with other | elsewhere
  · simp [State.windowOpen, other]
  · simp [State.windowOpen, elsewhere]

end

/-! ### LINE_ASK -/

/-- Operation codes 1 to 3 (R154, log 18). -/
theorem askOpOf_eq (op : Nat) : askOpOf op =
    if 1 ≤ op ∧ op ≤ 3 then some (if op = 1 then .test else if op = 2 then .read else .write) else none := by
  rcases op with _ | _ | _ | _ | op <;> simp [askOpOf]

/-- The ask of a LINE_ASK body, with the ranges of its fields written out (R154). -/
theorem askOf_eq (b : List Byte) : askOf b =
    if 1 ≤ byteAt b 2 ∧ byteAt b 2 ≤ 63 ∧ 1 ≤ byteAt b 3 ∧ byteAt b 3 ≤ 3 ∧ (byteAt b 3 = 3 ∨ wordAt b 5 = 0) then
      some
        { tag := b.getD 1 0, address := byteAt b 2
          op := if byteAt b 3 = 1 then .test else if byteAt b 3 = 2 then .read else .write
          item := byteAt b 4, value := wordAt b 5 }
    else none := by
  unfold askOf
  rw [askOpOf_eq]
  by_cases range : 1 ≤ byteAt b 3 ∧ byteAt b 3 ≤ 3
  · have write : (if byteAt b 3 = 1 then AskOp.test else if byteAt b 3 = 2 then .read else .write) = .write ↔ byteAt b 3 = 3 := by
      split_ifs <;> simp <;> omega
    simp [range, write, addressOk_iff, and_assoc]
  · rw [if_neg range, if_neg (fun ⟨_, _, low, high, _⟩ => range ⟨low, high⟩)]

section

variable {b : List Byte} {s : State} {a : Ask}

theorem queueAsk_outOfRange (unread : askOf b = none) : queueAsk b s = (s, .refuse .badValue) := by
  simp only [queueAsk, unread, replyOnly]

theorem queueAsk_full (read : askOf b = some a) (full : 2 ≤ s.line.asks.length) : queueAsk b s = (s, .refuse .busy) := by
  simp only [queueAsk, read]
  exact if_pos full

theorem queueAsk_room (read : askOf b = some a) (room : s.line.asks.length < 2) :
    queueAsk b s = ({ s with line := { s.line with asks := s.line.asks ++ [a] } }, .ok []) := by
  simp only [queueAsk, read]
  exact if_neg (Nat.not_le.2 room)

end

/-! ### The end of an ask's window -/

/-- The addresses and answers that an ask allows (Table 8-2). -/
def Ask.fits (a : Ask) (address : Nat) (b : Answer) : Bool := b.toAsk && address == a.address

theorem State.askAnswer_shut {s : State} (shut : s.windowOpen .ask = false) (w : AnswerWindow) : s.askAnswer w = s := by
  simp only [State.askAnswer, shut]

/-- The oldest ask leaves the queue with its outcome, after the health rules have taken a VALID one (R155). -/
theorem State.askAnswer_ends {s : State} {a : Ask} {rest : List Ask} {w : AnswerWindow} {o : WindowOutcome}
    (opened : s.windowOpen .ask = true) (oldest : s.line.asks = a :: rest) (outcome : classify a.fits w = o) :
    s.askAnswer w =
      { s with
        line := { s.line with phase := .idleWait, ylde := false, asks := rest }
        yard := (s.yard.askHealth s.env o).post s.env .askResult a.tag.toNat none o.askCode.1 o.askCode.2 } := by
  subst outcome
  simp only [State.askAnswer, opened, oldest]
  rfl

/-- An answer that fits an ask is a READY of a word or a NOT_READY of a status, from the station asked (Tables 8-2, 11-9). -/
theorem Ask.fits_cases {a : Ask} {address kind : Nat} {payload : List Byte} {b : Answer} (read : readAnswer kind payload = some b)
    (fit : a.fits address b = true) :
    address = a.address ∧
      (kind = 3 ∧ payload.length = 1 ∧ 1 ≤ byteAt payload 0 ∨ kind = 4 ∧ payload.length = 2) := by
  obtain ⟨toAsk, station⟩ := Bool.and_eq_true_iff.1 fit
  refine ⟨beq_iff_eq.1 station, ?_⟩
  rcases readAnswer_cases read with ⟨-, r, -, rfl⟩ | ⟨-, -, rfl⟩ | ⟨notReady, length, status, -⟩ | ⟨ready, length, -⟩
  · cases toAsk
  · cases toAsk
  · exact .inl ⟨notReady, length, status⟩
  · exact .inr ⟨ready, length⟩

/-- Settles O49: LINE_ASK by its ranges and the room of the queue, then the ask's window by what the answer is classified as. -/
theorem asksQueuedAndAnswered : Obligations.AsksQueuedAndAnswered := by
  refine ⟨?_, ?_, fun s w shut => congrArg Host.Outcome.next (State.askAnswer_shut (State.windowOpen_shut shut) w)⟩
  · intro s tag address op item value body inRange ask taken
    have answered {t : State} {r : Reply} (act : queueAsk body s = (t, r)) :
        exec .lineAsk s = .next (t.reply body r.result r.data) := exec_acts rfl taken rfl rfl (anyMode_eq _) act
    have word : wordAt body 5 = value.toNat := word_bytes value
    have reads (fields : inRange) : askOf body = some ask := by
      rw [askOf_eq, word]
      exact if_pos fields
    have unread (out : ¬ inRange) : askOf body = none := by
      rw [askOf_eq, word]
      exact if_neg out
    exact ⟨fun out => answered (queueAsk_outOfRange (unread out)), fun fields full => answered (queueAsk_full (reads fields) full),
      fun fields room => answered (queueAsk_room (reads fields) room)⟩
  · intro s a rest high held window oldest low top e answered ends heard
    have opened := State.windowOpen_open high held window
    have ended {w : AnswerWindow} {o : WindowOutcome} (outcome : classify a.fits w = o) :
        ends w (s.yard.askHealth e o) o.askCode.1 o.askCode.2 :=
      congrArg Host.Outcome.next (State.askAnswer_ends opened oldest outcome)
    have station : (BitVec.ofNat 8 a.address : Byte).toNat = a.address := by
      rw [BitVec.toNat_ofNat]
      exact Nat.mod_eq_of_lt (by omega)
    have valid {kind : Byte} {payload : List Byte} {b : Answer} (read : readAnswer kind.toNat payload = some b)
        (toAsk : b.toAsk = true) :
        classify a.fits (answered (u8 a.address ++ kind :: payload)) = .valid a.address b := by
      refine (classify_valid (address := BitVec.ofNat 8 a.address) read ?_ ?_ ?_).trans ?_ <;> rw [station]
      · exact low
      · exact top
      · simp [Ask.fits, toAsk]
    refine ⟨ended (o := .silent) rfl, fun chars => ended (classify_late _ chars),
      fun chars framing => ended (classify_framingError _ framing true), fun fields h l bad => ended (classify_badCheck _ bad true),
      fun bytes _ short => ended (classify_short _ short true), fun value => ended (valid (kind := 4#8) (readAnswer_ready value) rfl),
      fun status known => ended (valid (kind := 3#8) (readAnswer_notReady known) rfl),
      fun kind payload bad => ended (classify_misfit fun b read _ _ => ?_),
      fun address kind payload other => ended (classify_misfit fun b read _ _ => ?_)⟩
    · refine Bool.eq_false_of_not_eq_true fun fit => ?_
      obtain ⟨-, form⟩ := Ask.fits_cases read fit
      rcases bad with ⟨no3, no4⟩ | ⟨three, long | rfl⟩ | ⟨four, long⟩
      · omega
      · omega
      · simp [byteAt, three] at form
      · omega
    · exact Bool.eq_false_of_not_eq_true fun fit => other (Ask.fits_cases read fit).1

end Sys2Proof.Machine
end

section
/-!
PROOFS. The end of a round poll's answer window (O51): the report that a payload of Table 11-10 holds, and what a SILENT, a GARBLED and a
VALID poll make of the round.
-/
namespace Sys2Proof.Machine

/-! ### The report of a payload -/

/-- Table 11-10's report kinds in the order of their codes, which count from 1. -/
def ReportKind.table : List ReportKind :=
  [.arrived, .left, .atPoint, .pointFault, .exited, .tagSeen, .entered, .occupancy, .serviceStarted, .fuelDone, .washDone,
   .pointClear, .pointReady]

theorem ReportKind.ofCode_table {code : Nat} (low : 1 ≤ code) (high : code ≤ 13) :
    ReportKind.ofCode code = some (ReportKind.table.getD (code - 1) .arrived) := by
  interval_cases code <;> rfl

theorem ReportKind.code_ofCode {code : Nat} {kind : ReportKind} (h : ReportKind.ofCode code = some kind) : kind.code = code := by
  unfold ReportKind.ofCode at h
  split at h <;> cases h <;> rfl

theorem ReportKind.code_range (kind : ReportKind) : 1 ≤ kind.code ∧ kind.code ≤ 13 := by cases kind <;> decide

theorem ReportKind.limit_eq (kind : ReportKind) : kind.limit = if kind.code = 4 then 255 else 9999 := by cases kind <;> rfl

theorem ReportKind.length_eq (kind : ReportKind) : kind.length = if kind.code = 8 then 8 else 6 := by cases kind <;> rfl

theorem ReportKind.occupancy_iff (kind : ReportKind) : kind = .occupancy ↔ kind.code = 8 := by cases kind <;> decide

/-- The mask of a payload: the bytes after the quantity of an OCCUPANCY, and none of another kind. -/
def reportMask (p : List Byte) : Nat := if byteAt p 1 = 8 then wordAt p 6 else 0

/-- A payload's bytes make a report of Table 11-10, by its kind's code (R144, log 19). -/
structure ReportFits (p : List Byte) : Prop where
  code : 1 ≤ byteAt p 1 ∧ byteAt p 1 ≤ 13
  length : p.length = if byteAt p 1 = 8 then 8 else 6
  flags : byteAt p 0 < 8
  fleet : wordAt p 2 ≤ 9999
  quantity : wordAt p 4 ≤ if byteAt p 1 = 4 then 255 else 9999
  absent : 4 ≤ byteAt p 0 ∨ wordAt p 4 = 0
  mask : reportMask p < 4096

/-- The report that a payload's bytes spell: the flags' two low bits, the kind of its code, and the numbers. -/
def reportOf (p : List Byte) : Report :=
  { turn := byteAt p 0 % 2 == 1, more := byteAt p 0 / 2 % 2 == 1, kind := ReportKind.table.getD (byteAt p 1 - 1) .arrived
    fleet := wordAt p 2, quantity := wordAt p 4, mask := BitVec.ofNat 12 (reportMask p) }

/-- A payload holds a report exactly where it fits, and then the one its bytes spell. -/
theorem readReport_iff {p : List Byte} {r : Report} : readReport p = some r ↔ ReportFits p ∧ reportOf p = r := by
  by_cases code : 1 ≤ byteAt p 1 ∧ byteAt p 1 ≤ 13
  · obtain ⟨low, high⟩ := code
    have kind := ReportKind.ofCode_table low high
    have ofKind := ReportKind.code_ofCode kind
    have mask : (if ReportKind.table.getD (byteAt p 1 - 1) .arrived = .occupancy then wordAt p 6 else 0) = reportMask p := by
      simp only [ReportKind.occupancy_iff, ofKind, reportMask]
    simp only [readReport, kind, ReportKind.length_eq, ReportKind.limit_eq, ofKind, mask, Option.ite_none_right_eq_some,
      Option.some.injEq]
    refine and_congr_left fun _ => ⟨?_, ?_⟩
    · rintro ⟨length, flags, fleet, quantity, absent, small⟩
      exact ⟨⟨low, high⟩, length, flags, fleet, quantity, absent, small⟩
    · exact fun fits => ⟨fits.length, fits.flags, fits.fleet, fits.quantity, fits.absent, fits.mask⟩
  · have unread : readReport p = none := by
      cases kind : ReportKind.ofCode (byteAt p 1) with
      | none => simp only [readReport, kind]
      | some k => exact absurd (ReportKind.code_ofCode kind ▸ k.code_range) code
    rw [unread]
    exact iff_of_false nofun (fun h => code h.1.code)

/-- A payload of a kind's code, with the fields of Table 11-10 that stand in its first six bytes. -/
def reportPayload (flags code : Byte) (fleet quantity : Word) (tail : List Byte) : List Byte :=
  flags :: code :: (u16 fleet.toNat ++ u16 quantity.toNat ++ tail)

section

variable {flags code : Byte} {fleet quantity : Word} {tail : List Byte}

theorem reportPayload_fleet : wordAt (reportPayload flags code fleet quantity tail) 2 = fleet.toNat := word_bytes fleet

theorem reportPayload_quantity : wordAt (reportPayload flags code fleet quantity tail) 4 = quantity.toNat := word_bytes quantity

theorem reportPayload_length : (reportPayload flags code fleet quantity tail).length = tail.length + 6 := by
  simp [reportPayload, u16]

/-- What fits, said of the fields: their ranges, the length of what follows them, and an OCCUPANCY's mask. -/
theorem reportPayload_fits : ReportFits (reportPayload flags code fleet quantity tail) ↔
    (flags.toNat < 8 ∧ 1 ≤ code.toNat ∧ code.toNat ≤ 13 ∧ fleet.toNat ≤ 9999 ∧
      quantity.toNat ≤ (if code.toNat = 4 then 255 else 9999) ∧ (flags.toNat < 4 → quantity.toNat = 0)) ∧
    tail.length = (if code.toNat = 8 then 2 else 0) ∧ (code.toNat = 8 → wordAt tail 0 < 4096) := by
  have mask : reportMask (reportPayload flags code fleet quantity tail) = if code.toNat = 8 then wordAt tail 0 else 0 := rfl
  constructor
  · intro fits
    obtain ⟨low, high⟩ := fits.code
    have length : tail.length + 6 = if code.toNat = 8 then 8 else 6 := reportPayload_length.symm.trans fits.length
    have absent : 4 ≤ flags.toNat ∨ quantity.toNat = 0 := reportPayload_quantity ▸ fits.absent
    refine ⟨⟨fits.flags, low, high, reportPayload_fleet ▸ fits.fleet, reportPayload_quantity ▸ fits.quantity,
      fun low => absent.resolve_left (Nat.not_le.2 low)⟩, ?_, fun occupancy => ?_⟩
    · split_ifs at length ⊢ <;> omega
    · have small := fits.mask
      rwa [mask, if_pos occupancy] at small
  · rintro ⟨⟨flagsFit, low, high, fleetFits, quantityFits, absent⟩, length, maskFits⟩
    refine ⟨⟨low, high⟩, reportPayload_length.trans ?_, flagsFit, reportPayload_fleet.trans_le fleetFits,
      reportPayload_quantity.trans_le quantityFits, ?_, ?_⟩
    · change _ = if code.toNat = 8 then 8 else 6
      split_ifs at length ⊢ <;> omega
    · rw [reportPayload_quantity]
      exact (Nat.lt_or_ge flags.toNat 4).symm.imp_right absent
    · rw [mask]
      split_ifs with occupancy
      · exact maskFits occupancy
      · decide

/-- The report that fields and a mask spell. -/
theorem reportOf_payload {mask : Nat} (masked : (if code.toNat = 8 then wordAt tail 0 else 0) = mask) :
    reportOf (reportPayload flags code fleet quantity tail) =
      { turn := flags.getLsbD 0, more := flags.getLsbD 1, kind := ReportKind.table.getD (code.toNat - 1) .arrived
        fleet := fleet.toNat, quantity := quantity.toNat, mask := BitVec.ofNat 12 mask } := by
  have turn : (flags.toNat % 2 == 1) = flags.getLsbD 0 := by
    rw [BitVec.getLsbD, Nat.testBit_zero, beq_eq_decide]
  have more : (flags.toNat / 2 % 2 == 1) = flags.getLsbD 1 := by
    rw [BitVec.getLsbD, Nat.testBit_succ, Nat.testBit_zero, beq_eq_decide]
  rw [← turn, ← more, ← masked, ← reportPayload_fleet (flags := flags) (code := code) (quantity := quantity) (tail := tail),
    ← reportPayload_quantity (flags := flags) (code := code) (fleet := fleet) (tail := tail)]
  rfl

end

/-! ### The round after a poll -/

/-- The addresses and answers that a poll of a group allows (Table 8-2). -/
def Group.fits (g : Group) (address : Nat) (a : Answer) : Bool := a.isReport && g.contains address

/-- An answer that fits a poll is a report, from an address of the group (Tables 8-2, 11-9). -/
theorem Group.fits_cases {g : Group} {address kind : Nat} {payload : List Byte} {b : Answer}
    (read : readAnswer kind payload = some b) (fit : g.fits address b = true) :
    kind = 1 ∧ ReportFits payload ∧ address / 2 ^ (6 - g.len) = g.bits := by
  obtain ⟨isReport, station⟩ := Bool.and_eq_true_iff.1 fit
  rcases readAnswer_cases read with ⟨one, r, report, -⟩ | ⟨-, -, rfl⟩ | ⟨-, -, -, rfl⟩ | ⟨-, -, rfl⟩
  · exact ⟨one, (readReport_iff.1 report).1, (Group.contains_iff g address).1 station⟩
  all_goals cases isReport

/-- The top group popped: with none below it the round is IDLE (R163, R168). -/
theorem Rounds.pop_eq (r : Rounds) : r.pop =
    if r.stack.drop 1 = [] then { r with active := none, count := 0, garbles := 0, stack := [], taken := none }
    else { r with stack := r.stack.drop 1, garbles := 0 } := by
  unfold Rounds.pop
  cases below : r.stack.drop 1 with
  | nil => rfl
  | cons g rest => rfl

section

variable {s : State} {g : Group} {rest : List Group} {w : AnswerWindow}

theorem State.pollAnswer_shut (shut : s.windowOpen .round = false) (w : AnswerWindow) : s.pollAnswer w = s := by
  simp only [State.pollAnswer, shut]

/-- A SILENT poll pops its group (R164). -/
theorem State.pollAnswer_silent (opened : s.windowOpen .round = true) (top : s.rounds.stack = g :: rest) :
    s.pollAnswer .silent = { s with line := s.line.endWindow, rounds := s.rounds.pop } := by
  simp only [State.pollAnswer, opened, top, classify]

/-- A GARBLED poll of more than one address splits its group, the 0-half on top (R165). -/
theorem State.pollAnswer_splits (opened : s.windowOpen .round = true) (top : s.rounds.stack = g :: rest)
    (garbled : classify g.fits w = .garbled) (short : g.len < 6) : s.pollAnswer w =
      { s with
        line := s.line.endWindow
        rounds :=
          { s.rounds with
            stack := { len := g.len + 1, bits := 2 * g.bits } :: { len := g.len + 1, bits := 2 * g.bits + 1 } :: rest
            garbles := 0 } } := by
  have outcome : classify (fun address a => a.isReport && g.contains address) w = .garbled := garbled
  simp only [State.pollAnswer, opened, top, outcome, State.pollGarbled, if_pos short, Rounds.split, Group.zeroHalf, Group.oneHalf,
    List.drop_succ_cons, List.drop_zero]

/-- A GARBLED poll of a single address is a failure of its station, and the second pops the address (R166). -/
theorem State.pollAnswer_fails (opened : s.windowOpen .round = true) (top : s.rounds.stack = g :: rest)
    (garbled : classify g.fits w = .garbled) (single : 6 ≤ g.len) : s.pollAnswer w =
      { s with
        line := s.line.endWindow
        yard := s.yard.stationFailure s.env g.bits
        rounds := if 1 ≤ s.rounds.garbles then s.rounds.pop else { s.rounds with garbles := s.rounds.garbles + 1 } } := by
  have outcome : classify (fun address a => a.isReport && g.contains address) w = .garbled := garbled
  simp only [State.pollAnswer, opened, top, outcome, State.pollGarbled, if_neg (Nat.not_lt.2 single),
    Nat.succ_le_succ_iff]

/-- A VALID report is taken by the health rules and routed, and its TAKEN is owed (R164). -/
theorem State.pollAnswer_report {address : Nat} {r : Report} (opened : s.windowOpen .round = true)
    (top : s.rounds.stack = g :: rest) (valid : classify g.fits w = .valid address (.report r)) : s.pollAnswer w =
      { s with
        line := s.line.endWindow
        yard := (s.yard.stationValid s.env address).routeReport s.env address r
        rounds := { s.rounds with taken := some { address, pop := g.len == 6 && !r.more } } } := by
  have outcome : classify (fun address a => a.isReport && g.contains address) w = .valid address (.report r) := valid
  simp only [State.pollAnswer, opened, top, outcome, State.pollValid]

end

/-- Settles O51: a poll by what its answer is classified as; a report is VALID where its payload fits and its address is of the group. -/
theorem roundPollsAnswered : Obligations.RoundPollsAnswered := by
  refine ⟨?_, fun s w shut => congrArg Host.Outcome.next (State.pollAnswer_shut (State.windowOpen_shut shut) w)⟩
  intro s g rest high held window top r popped ends garbled answered kinds
  have opened := State.windowOpen_open high held window
  have pops : r.pop = popped := by
    rw [Rounds.pop_eq, show r.stack.drop 1 = rest from congrArg (List.drop 1) top]
  have garbles {w : AnswerWindow} (outcome : classify g.fits w = .garbled) : garbled w := by
    refine ⟨fun short => congrArg Host.Outcome.next (State.pollAnswer_splits opened top outcome short), fun single => ?_⟩
    rw [← pops]
    exact congrArg Host.Outcome.next (State.pollAnswer_fails opened top outcome single)
  have misfits {address kind : Byte} {payload : List Byte}
      (misfit : kind.toNat = 1 → ReportFits payload → 1 ≤ address.toNat → address.toNat ≤ 63 →
        address.toNat / 2 ^ (6 - g.len) ≠ g.bits) : garbled (answered (address :: kind :: payload)) := by
    refine garbles (classify_misfit fun b read low upper => Bool.eq_false_of_not_eq_true fun fit => ?_)
    obtain ⟨report, fields, member⟩ := Group.fits_cases read fit
    exact misfit report fields low upper member
  refine ⟨?_, fun chars => garbles (classify_late _ chars), fun chars framing => garbles (classify_framingError _ framing true),
    fun fields h l bad => garbles (classify_badCheck _ bad true), fun bytes _ short => garbles (classify_short _ short true), ?_, ?_⟩
  · rw [← pops]
    exact congrArg Host.Outcome.next (State.pollAnswer_silent opened top)
  · intro address kind payload bad
    refine misfits fun report fields low upper member => ?_
    have length := fields.length
    rcases bad with other | below | above | outside | short
    · exact other (BitVec.eq_of_toNat_eq report)
    · omega
    · omega
    · exact outside member
    · split_ifs at length <;> omega
  · intro address flags code fleet quantity tail w fits read
    have unfit (misfit : ¬ ReportFits (reportPayload flags code fleet quantity tail)) : garbled w :=
      misfits fun _ fields => absurd fields misfit
    have reads {mask : Nat} (masked : (if code.toNat = 8 then wordAt tail 0 else 0) = mask)
        (fields : ReportFits (reportPayload flags code fleet quantity tail)) : read mask := by
      intro low high member more report
      have holds : readReport (reportPayload flags code fleet quantity tail) = some report :=
        readReport_iff.2 ⟨fields, reportOf_payload masked⟩
      have answer : readAnswer (1#8).toNat (reportPayload flags code fleet quantity tail) = some (.report report) :=
        congrArg (Option.map Answer.report) holds
      have valid : classify g.fits w = .valid address.toNat (.report report) :=
        classify_valid answer low high ((Group.contains_iff g _).2 member)
      have pop : decide (g.len = 6 ∧ more = false) = (g.len == 6 && !more) := by
        rw [Bool.decide_and, beq_eq_decide]
        cases more <;> rfl
      rw [pop]
      exact congrArg Host.Outcome.next (State.pollAnswer_report opened top valid)
    refine ⟨fun out => unfit fun fields => out (reportPayload_fits.1 fields).1, fun other => ⟨fun more => ?_, fun inside bare => ?_⟩,
      fun occupancy => ⟨fun length => ?_, fun mask masked => ⟨fun large => ?_, fun inside small => ?_⟩⟩⟩
    · refine unfit fun fields => more ?_
      obtain ⟨-, length, -⟩ := reportPayload_fits.1 fields
      rw [if_neg other] at length
      exact List.eq_nil_of_length_eq_zero length
    · refine reads (if_neg other) (reportPayload_fits.2 ⟨inside, ?_, fun occupancy => absurd occupancy other⟩)
      rw [bare, if_neg other]
      rfl
    · refine unfit fun fields => length ?_
      obtain ⟨-, whole, -⟩ := reportPayload_fits.1 fields
      exact whole.trans (if_pos occupancy)
    · refine unfit fun fields => Nat.not_lt.2 large ?_
      obtain ⟨-, -, small⟩ := reportPayload_fits.1 fields
      have number : wordAt tail 0 = mask.toNat := masked ▸ word_bytes mask
      exact number ▸ small occupancy
    · have number : wordAt tail 0 = mask.toNat := masked ▸ word_bytes mask
      refine reads ((if_pos occupancy).trans number) (reportPayload_fits.2 ⟨inside, ?_, fun _ => number.trans_lt small⟩)
      rw [masked, if_pos occupancy]
      rfl

end Sys2Proof.Machine
end

section
/-!
PROOFS. A step by the front of the queue (O1). The arbiter (O52): what a grant of the free line sends, and how an idle wait ends.
-/
namespace Sys2Proof.Machine

/-- Settles O1: the step is read off its definition, and the idle step ends a master frame being sent. -/
theorem stepTakesTheFrontCommand : Obligations.StepTakesTheFrontCommand :=
  ⟨fun s c rest front => by rw [step, front], fun _ empty => step_nil empty⟩

/-! ### The bytes of an order -/

/-- A SIGN's bytes: the order, the mode's code, the three expected buses and the release (Tables 8-3, 11-8). -/
theorem Order.sign_bytes (c : SignContent) : (Order.sign c).bytes =
    u8 1 ++ u8 c.mode.code ++ (u16 c.expected1 ++ u16 c.expected2 ++ u16 c.expected3 ++ u16 c.release) := by
  simp only [Order.bytes, SignContent.bytes, List.append_assoc]

/-! ### A grant of the free line (R147) -/

section

variable {s : State}

theorem State.grant_held (held : s.line.phase ≠ .free) : s.grant = s := if_pos held

/-- A due URGENT round comes first. -/
theorem State.grant_urgent (free : s.line.phase = .free) (due : s.rounds.urgentDue = true) : s.grant = s.beginRound .urgent := by
  rw [State.grant, if_neg (not_not.2 free), if_pos due]

/-- With no URGENT round due, the oldest command. -/
theorem State.grant_command {c : LineCommand} {rest : List LineCommand} (free : s.line.phase = .free)
    (quiet : s.rounds.urgentDue = false) (oldest : s.yard.cmdQueue = c :: rest) : s.grant = s.grantCommand c := by
  rw [State.grant, if_neg (not_not.2 free), quiet, oldest]
  rfl

/-- With no command queued either, the oldest ask. -/
theorem State.grant_ask {a : Ask} {rest : List Ask} (free : s.line.phase = .free) (quiet : s.rounds.urgentDue = false)
    (noCommand : s.yard.cmdQueue = []) (oldest : s.line.asks = a :: rest) : s.grant = s.sendAsk a := by
  rw [State.grant, if_neg (not_not.2 free), quiet, noCommand, oldest]
  rfl

/-- With no ask held either, a ROUTINE round, if one is due. -/
theorem State.grant_last (free : s.line.phase = .free) (quiet : s.rounds.urgentDue = false) (noCommand : s.yard.cmdQueue = [])
    (noAsk : s.line.asks = []) : s.grant = if s.rounds.routineDue then s.beginRound .routine else s := by
  rw [State.grant, if_neg (not_not.2 free), quiet, noCommand, noAsk]
  rfl

/-- The command granted is in flight, its lane told, and its COMMAND goes out (R148). -/
theorem State.grantCommand_eq {c : LineCommand} {rest : List LineCommand} (oldest : s.yard.cmdQueue = c :: rest) :
    s.grantCommand c =
      { s with
        yard := ({ s.yard with cmdQueue := rest, inFlight := some { command := c, retry := false } } : Yard).handTaken c.owner
        line := s.line.exchange .command (commandFields c) } := by
  rw [State.grantCommand, oldest]
  rfl

/-! ### The end of an idle wait (R143) -/

theorem State.idleWaitEnd_elsewhere (elsewhere : s.line.phase ≠ .idleWait) : s.idleWaitEnd = s := if_pos elsewhere

/-- The line is freed where no command and no round holds it. -/
theorem State.idleWaitEnd_frees (waits : s.line.phase = .idleWait) (holder : s.line.holder = none ∨ s.line.holder = some .ask) :
    s.idleWaitEnd = { s with line := s.line.freed } := by
  rw [State.idleWaitEnd, if_neg (not_not.2 waits)]
  rcases holder with none | ask
  · rw [none]
  · rw [ask]

/-- The line is freed where the command holding it has ended (R149). -/
theorem State.idleWaitEnd_ended (waits : s.line.phase = .idleWait) (holder : s.line.holder = some .command)
    (ended : s.yard.inFlight = none) : s.idleWaitEnd = { s with line := s.line.freed } := by
  rw [State.idleWaitEnd, if_neg (not_not.2 waits), holder, ended]

/-- A command in flight is sent once more (R149). -/
theorem State.idleWaitEnd_retries {g : InFlight} (waits : s.line.phase = .idleWait) (holder : s.line.holder = some .command)
    (inFlight : s.yard.inFlight = some g) : s.idleWaitEnd = s.sendCommand g.command := by
  rw [State.idleWaitEnd, if_neg (not_not.2 waits), holder, inFlight]

theorem State.idleWaitEnd_round (waits : s.line.phase = .idleWait) (holder : s.line.holder = some .round) :
    s.idleWaitEnd = s.roundGoesOn := by
  rw [State.idleWaitEnd, if_neg (not_not.2 waits), holder]

/-- A TAKEN that is owed goes out first, and pops the group it was owed for (R164). -/
theorem State.roundGoesOn_taken {t : TakenOwed} (owed : s.rounds.taken = some t) : s.roundGoesOn = s.sendTaken t := by
  rw [State.roundGoesOn, owed]

theorem State.roundGoesOn_over (paid : s.rounds.taken = none) (idle : s.rounds.active = none) :
    s.roundGoesOn = { s with line := s.line.freed } := by
  rw [State.roundGoesOn, paid, idle]

/-- A round at its exchange limit is cut, and any other polls its top group (R163, R169). -/
theorem State.roundGoesOn_active {c : RoundClass} (paid : s.rounds.taken = none) (active : s.rounds.active = some c) :
    s.roundGoesOn = if 96 ≤ s.rounds.count then s.cutRound c else s.poll c := by
  rw [State.roundGoesOn, paid, active]
  rfl

/-- ROUND_START for the all-group, GROUP_POLL for any other (R163). -/
theorem State.poll_eq {g : Group} {rest : List Group} (c : RoundClass) (top : s.rounds.stack = g :: rest) : s.poll c =
    { s with
      rounds := { s.rounds with count := s.rounds.count + 1 }
      line := s.line.exchange .round (if g.len = 0 then roundStartFields c else groupPollFields g) } := by
  rw [State.poll, top]
  rfl

end

/-- A round class by its code (Table 9-3). -/
theorem RoundClass.code_eq (c : RoundClass) : c.code = if c = .urgent then 1 else 2 := by cases c <;> rfl

/-- Settles O52: the bytes of each order, the arbiter's order of grants, and the end of an idle wait by the holder of the line. -/
theorem lineGrantedAndHeld : Obligations.LineGrantedAndHeld := by
  refine ⟨?_, ?_⟩
  · intro low word
    refine ⟨fun c => ?_, rfl, fun _ => rfl, rfl, rfl, fun _ => rfl⟩
    rw [Order.sign_bytes]
    cases c.mode <;> rfl
  intro s high r sends freed begins
  have granted {t : State} (grants : s.grant = t) : exec .lineGrant s = .next t :=
    congrArg Host.Outcome.next ((State.powered_high high _).trans grants)
  have ended {t : State} (ends : s.idleWaitEnd = t) : exec .lineIdleWaitEnd s = .next t :=
    congrArg Host.Outcome.next ((State.powered_high high _).trans ends)
  refine ⟨fun held => granted (State.grant_held held), fun free => ⟨?_, ?_, ?_, ?_⟩,
    fun elsewhere => ended (State.idleWaitEnd_elsewhere elsewhere), fun waits => ⟨?_, ?_, ?_⟩⟩
  · exact fun due => granted (State.grant_urgent free due)
  · intro c rest quiet oldest
    refine (granted ((State.grant_command free quiet oldest).trans (State.grantCommand_eq oldest))).trans ?_
    rfl
  · rintro ⟨tag, address, op, item, value⟩ rest quiet noCommand oldest
    refine (granted (State.grant_ask free quiet noCommand oldest)).trans ?_
    cases op <;> rfl
  · intro quiet noCommand noAsk
    have last := State.grant_last free quiet noCommand noAsk
    exact ⟨fun due => granted (last.trans (if_pos due)), fun idle => granted (last.trans (if_neg (Bool.eq_false_iff.1 idle)))⟩
  · exact fun holder => ended (State.idleWaitEnd_frees waits holder)
  · exact fun holder => ⟨fun none => ended (State.idleWaitEnd_ended waits holder none),
      fun g inFlight => ended (State.idleWaitEnd_retries waits holder inFlight)⟩
  · intro holder
    have goesOn {t : State} (goes : s.roundGoesOn = t) : exec .lineIdleWaitEnd s = .next t :=
      ended ((State.idleWaitEnd_round waits holder).trans goes)
    refine ⟨fun t owed => ?_, fun paid idle => goesOn (State.roundGoesOn_over paid idle),
      fun c paid active => ⟨fun limit => ?_, fun g rest room top => ?_⟩⟩
    · intro counted
      refine goesOn ((State.roundGoesOn_taken owed).trans ?_)
      rw [State.sendTaken, Rounds.pop_eq]
      rfl
    · refine goesOn ((State.roundGoesOn_active paid active).trans ((if_pos limit).trans ?_))
      rw [State.cutRound, Rounds.idle, paid, RoundClass.code_eq]
      rfl
    · refine goesOn ((State.roundGoesOn_active paid active).trans ((if_neg (Nat.not_le.2 room)).trans ?_))
      rw [State.poll_eq c top, roundStartFields, RoundClass.code_eq]
      rfl

end Sys2Proof.Machine
end

section
/-!
PROOFS. The notice unit (O56, O57): a posting by the class of its kind, and the three requests that read and change the unit.
-/
namespace Sys2Proof.Machine

/-! ### A posting -/

/-- The classes that are sent: 1, 2 and 3, each by its own flag (R172). -/
theorem Notices.enabled_iff (u : Notices) (cls : Nat) : u.enabled cls = true ↔
    (cls = 1 ∧ u.enable1 = true) ∨ (cls = 2 ∧ u.enable2 = true) ∨ (cls = 3 ∧ u.enable3 = true) := by
  rcases cls with _ | _ | _ | _ | cls <;> simp [Notices.enabled]

/-- Settles O57: whether the class is enabled and whether the queue is full are the two tests a posting makes. -/
theorem noticePosted : Obligations.NoticePosted := by
  intro u clock kind fleet code quantity place v i cls sent tallies
  have enabled : u.enabled cls = true ↔ sent := u.enabled_iff cls
  refine ⟨fun unsent => ?_, fun on full => ?_, fun on room => ?_⟩
  · exact if_neg (mt enabled.1 unsent)
  · exact (if_pos (enabled.2 on)).trans (if_pos full)
  · exact (if_pos (enabled.2 on)).trans (if_neg (Nat.not_le.2 room))

/-! ### The classes that a NOTICE_MAP sets -/

/-- The class of kind `number` replaced, in kind-number order. -/
theorem getD_setClass {classes : List Nat} {number cls : Nat} (low : 1 ≤ number) (high : number ≤ classes.length) (i : Nat) :
    (classes.set (number - 1) cls).getD i 0 = if i + 1 = number then cls else classes.getD i 0 := by
  simp only [List.getD_eq_getElem?_getD, List.getElem?_set]
  by_cases here : i + 1 = number
  · rw [if_pos here, if_pos (by omega), if_pos (by omega)]
    rfl
  · rw [if_neg here, if_neg (by omega)]

/-- Setting classes leaves their number. -/
theorem setClasses_length : ∀ (pairs : List (Nat × Nat)) (classes : List Nat),
    (pairs.foldl (fun c p => c.set (p.1 - 1) p.2) classes).length = classes.length
  | [], _ => rfl
  | _ :: rest, _ => (setClasses_length rest _).trans List.length_set

/-- The classes of some kinds set, no kind twice: each named kind takes its class, and every other keeps its own (R173). -/
theorem setClasses_getD : ∀ {pairs : List (Nat × Nat)} {classes : List Nat},
    (∀ p ∈ pairs, 1 ≤ p.1 ∧ p.1 ≤ classes.length) → (pairs.map Prod.fst).Nodup → ∀ i,
      (pairs.foldl (fun c p => c.set (p.1 - 1) p.2) classes).getD i 0 =
        (pairs.find? (fun p => p.1 == i + 1)).elim (classes.getD i 0) Prod.snd
  | [], _, _, _, _ => rfl
  | p :: rest, classes, kinds, once, i => by
    obtain ⟨fresh, once⟩ := List.nodup_cons.1 once
    obtain ⟨⟨low, high⟩, others⟩ := List.forall_mem_cons.1 kinds
    have tail := setClasses_getD (classes := classes.set (p.1 - 1) p.2) (by simpa using others) once i
    rw [List.foldl_cons, tail, getD_setClass low high, List.find?_cons]
    by_cases here : i + 1 = p.1
    · have gone : rest.find? (fun q => q.1 == i + 1) = none :=
        List.find?_eq_none.2 fun q hq same =>
          fresh (List.mem_map.2 ⟨q, hq, (beq_iff_eq.1 same).trans here⟩)
      rw [gone, if_pos here, beq_iff_eq.2 here.symm]
      rfl
    · rw [if_neg here, beq_eq_false_iff_ne.2 (Ne.symm here)]

/-! ### The pairs that a NOTICE_MAP carries -/

/-- The numbers that pairs of bytes stand for. -/
def pairNumbers (pairs : List (Byte × Byte)) : List (Nat × Nat) := pairs.map (fun p => (p.1.toNat, p.2.toNat))

/-- A NOTICE_MAP request. -/
def noticeMapBody (tag : Byte) (pairs : List (Byte × Byte)) : List Byte :=
  request 0x3C tag (u8 pairs.length ++ (pairs.map (fun p => [p.1, p.2])).flatten)

section

variable {pairs : List (Byte × Byte)} (high : pairs.length < 256) (tag : Byte)
include high

theorem noticeMapBody_count : byteAt (noticeMapBody tag pairs) 2 = pairs.length := by
  simp [noticeMapBody, request, byteAt, u8, Nat.mod_eq_of_lt high]

theorem noticeMapBody_pairs : mapPairs (noticeMapBody tag pairs) = pairNumbers pairs := by
  have items : listAt 2 2 (noticeMapBody tag pairs) = pairs.map (fun p => [p.1, p.2]) := by
    rw [listAt, noticeMapBody_count high, ← List.length_map (fun p : Byte × Byte => [p.1, p.2])]
    refine itemsAt_flatten (fun x hx => ?_) rfl
    obtain ⟨p, -, rfl⟩ := List.mem_map.1 hx
    rfl
  rw [mapPairs, items, List.map_map]
  rfl

/-- A NOTICE_MAP's length fails by its count alone (R183). -/
theorem noticeMapBody_counted : counted 2 2 0 42 (noticeMapBody tag pairs) = decide (pairs.length ≤ 42) := by
  have bytes : ((pairs.map (fun p => [p.1, p.2])).flatten).length = 2 * pairs.length := by
    rw [List.length_flatten, List.map_map, show List.length ∘ (fun p : Byte × Byte => [p.1, p.2]) = fun _ => 2 from rfl,
      List.map_const', List.sum_replicate, smul_eq_mul, Nat.mul_comm]
  have total : (noticeMapBody tag pairs).length = 3 + 2 * pairs.length := by
    simp only [noticeMapBody, request, u8, List.length_cons, List.length_append, List.length_nil, bytes]
    omega
  have past : 2 < 3 + 2 * pairs.length := by omega
  simp [counted, noticeMapBody_count high, total, past]

end

theorem mapPairOk_iff (p : Nat × Nat) : mapPairOk p = true ↔ 1 ≤ p.1 ∧ p.1 ≤ 42 ∧ p.2 ≤ 3 := by
  simp [mapPairOk, and_assoc]

/-- The kinds named by pairs of bytes are distinct as bytes and as numbers alike. -/
theorem mapKinds_nodup_iff (pairs : List (Byte × Byte)) :
    ((pairNumbers pairs).map Prod.fst).Nodup ↔ (pairs.map Prod.fst).Nodup := by
  rw [← List.nodup_map_iff (f := BitVec.toNat) (fun _ _ => BitVec.eq_of_toNat_eq), pairNumbers, List.map_map, List.map_map]
  rfl

/-- The model's test of a NOTICE_MAP's pairs, on the bytes they are carried in (R173). -/
theorem mapPairs_pass_iff (pairs : List (Byte × Byte)) :
    ((pairNumbers pairs).all mapPairOk && noRepeats ((pairNumbers pairs).map Prod.fst)) = true ↔
      (∀ p ∈ pairs, 1 ≤ p.1.toNat ∧ p.1.toNat ≤ 42 ∧ p.2.toNat ≤ 3) ∧ (pairs.map Prod.fst).Nodup := by
  rw [Bool.and_eq_true, noRepeats_iff, mapKinds_nodup_iff]
  refine and_congr_left' ?_
  simp only [pairNumbers, List.all_map, List.all_eq_true, Function.comp_apply, mapPairOk_iff]

/-! ### The three requests -/

/-- A row's own request whose length is not the layout's (R183 stage 2). -/
theorem exec_badLength {c : Instr} {q : Request} (row : requestOf c = some q) {s : State} {b : List Byte} (taken : s.Takes b)
    (own : q.takes b = true) (length : q.length b = false) : Refused c s b .badLength := by
  rw [Refused, exec_of_requestOf row, Request.serve_own taken own, Request.result, length]
  rfl

/-- The reply's enables, each flag in a byte (log 17). -/
theorem Notices.enableBytes_eq (u : Notices) : u.enableBytes =
    [if u.enable1 then 1#8 else 0#8, if u.enable2 then 1#8 else 0#8, if u.enable3 then 1#8 else 0#8] := by
  have flag (b : Bool) : uFlag b = [if b then 1#8 else 0#8] := by cases b <;> rfl
  rw [Notices.enableBytes, flag, flag, flag]
  rfl

/-- An on or off setting is the byte that the flag it sets is sent as (11.6). -/
theorem flag_of_setting {e : Byte} (setting : e.toNat ≤ 1) : (if (e == 1#8) = true then 1#8 else 0#8) = e := by
  have bits : e = 0#8 ∨ e = 1#8 := by bv_omega
  rcases bits with rfl | rfl <;> rfl

/-- A setting read as a flag (11.6). -/
theorem flagOf_setting (e : Byte) : flagOf e.toNat = if e.toNat ≤ 1 then some (e == 1#8) else none := by
  have same : (e.toNat == 1) = (e == 1#8) := by
    rw [Bool.eq_iff_iff, beq_iff_eq, beq_iff_eq]
    exact (BitVec.toNat_inj (y := 1#8))
  rw [flagOf_eq, same]

section

variable {s : State} {tag : Byte}

/-- NOTICE_MAP's action on the pairs a body carries: refused, or the named classes set (R173). -/
theorem mapNotices_eq {pairs : List (Byte × Byte)} (high : pairs.length < 256) :
    let classes := (pairNumbers pairs).foldl (fun c p => c.set (p.1 - 1) p.2) s.yard.notices.classes
    let u : Notices := { s.yard.notices with classes }
    mapNotices (noticeMapBody tag pairs) s =
      if (∀ p ∈ pairs, 1 ≤ p.1.toNat ∧ p.1.toNat ≤ 42 ∧ p.2.toNat ≤ 3) ∧ (pairs.map Prod.fst).Nodup then s.noticed u u.mapBytes
      else (s, .refuse .badValue) := by
  intro classes u
  simp only [mapNotices, noticeMapBody_pairs high tag, mapPairs_pass_iff]
  rfl

/-- NOTICE_ENABLE's action: refused, or the three flags set (R174). -/
theorem enableNotices_eq (e1 e2 e3 : Byte) :
    let u : Notices := { s.yard.notices with enable1 := e1 == 1#8, enable2 := e2 == 1#8, enable3 := e3 == 1#8 }
    enableNotices (request 0x3D tag [e1, e2, e3]) s =
      if e1.toNat ≤ 1 ∧ e2.toNat ≤ 1 ∧ e3.toNat ≤ 1 then s.noticed u [e1, e2, e3] else (s, .refuse .badValue) := by
  intro u
  have read1 : flagOf (byteAt (request 0x3D tag [e1, e2, e3]) 2) = _ := flagOf_setting e1
  have read2 : flagOf (byteAt (request 0x3D tag [e1, e2, e3]) 3) = _ := flagOf_setting e2
  have read3 : flagOf (byteAt (request 0x3D tag [e1, e2, e3]) 4) = _ := flagOf_setting e3
  rw [enableNotices, read1, read2, read3]
  by_cases passes : e1.toNat ≤ 1 ∧ e2.toNat ≤ 1 ∧ e3.toNat ≤ 1
  · obtain ⟨first, second, third⟩ := passes
    have bytes : u.enableBytes = [e1, e2, e3] := by
      rw [Notices.enableBytes_eq, flag_of_setting first, flag_of_setting second, flag_of_setting third]
    rw [if_pos first, if_pos second, if_pos third, if_pos ⟨first, second, third⟩, ← bytes]
  · rw [if_neg passes]
    split
    · next _ _ _ first second third =>
      simp only [Option.ite_none_right_eq_some] at first second third
      exact absurd ⟨first.1, second.1, third.1⟩ passes
    · rfl

end

/-- Settles O56: the pairs are read back whole, and each kind's class after the setting is found by its number. -/
theorem noticeRequests : Obligations.NoticeRequests := by
  intro s tag u with_ flag
  refine ⟨?_, ?_, ?_⟩
  · intro pairs body passes atMost taken
    have high : pairs.length < 256 := by omega
    have counts : noticeMapRequest.length body = decide (pairs.length ≤ 42) := noticeMapBody_counted high tag
    have answered (few : pairs.length ≤ 42) {t : State} {r : Reply} (act : mapNotices body s = (t, r)) :
        exec .noticeMap s = .next (t.reply body r.result r.data) :=
      exec_acts rfl taken rfl (counts.trans (decide_eq_true few)) (anyMode_eq _) act
    refine ⟨fun many => ?_, fun few fails => ?_, fun few ok whole => ?_⟩
    · exact exec_badLength rfl taken rfl (counts.trans (decide_eq_false (Nat.not_le.2 many)))
    · exact answered few (r := .refuse .badValue) ((mapNotices_eq high).trans (if_neg fails))
    · have inRange : ∀ p ∈ pairNumbers pairs, 1 ≤ p.1 ∧ p.1 ≤ u.classes.length :=
        List.forall_mem_map.2 fun p hp =>
          have ⟨low, top, _⟩ := ok.1 p hp
          ⟨low, top.trans_eq whole.symm⟩
      refine ⟨_, (setClasses_length (pairNumbers pairs) u.classes).trans whole, fun i _ => ?_,
        (answered few ((mapNotices_eq high).trans (if_pos ok))).trans ?_⟩
      · rw [setClasses_getD inRange ((mapKinds_nodup_iff pairs).2 ok.2), pairNumbers, List.find?_map]
        dsimp only [Function.comp_def]
        cases pairs.find? (fun p => p.1.toNat == i + 1) <;> rfl
      · rw [Notices.mapBytes, Notices.enableBytes_eq]
        rfl
  · intro e1 e2 e3 body passes taken
    have answered {t : State} {r : Reply} (act : enableNotices body s = (t, r)) :
        exec .noticeEnable s = .next (t.reply body r.result r.data) := exec_acts rfl taken rfl rfl (anyMode_eq _) act
    exact ⟨fun fails => answered (r := .refuse .badValue) ((enableNotices_eq e1 e2 e3).trans (if_neg fails)),
      fun ok => answered (r := .ok [e1, e2, e3]) ((enableNotices_eq e1 e2 e3).trans (if_pos ok))⟩
  · intro body taken
    exact exec_acts (c := .noticeTally) rfl taken rfl rfl (anyMode_eq _) rfl

end Sys2Proof.Machine
end

section
/-!
PROOFS. The host link's receiving side (O4, O5): the check, the characters of a frame taken one by one, and the events that end in a
frame error.
-/
namespace Sys2Proof.Machine

/-! ### The check (R181) -/

theorem crc16_snoc (bytes : List Byte) (b : Byte) : crc16 (bytes ++ [b]) = crcByte (crc16 bytes) b := List.foldl_append

/-- The shifts of a byte are a fold of one shift; what is folded over only counts them. -/
theorem foldl_crcShift : ∀ (counter : List Nat) (c : Word), counter.foldl (fun c _ => crcShift c) c = crcShifts counter.length c
  | [], _ => rfl
  | _ :: counter, c => foldl_crcShift counter (crcShift c)

/-- The check is sent high byte first. -/
theorem crcBytes_eq (c : Word) : crcBytes c = [c.extractLsb' 8 8, c.extractLsb' 0 8] := by
  have high : BitVec.ofNat 8 (c.toNat / 256) = c.extractLsb' 8 8 :=
    BitVec.eq_of_toNat_eq (by simp [Nat.shiftRight_eq_div_pow])
  have low : BitVec.ofNat 8 c.toNat = c.extractLsb' 0 8 := BitVec.eq_of_toNat_eq (by simp)
  rw [crcBytes, u16, high, low]

/-! ### Characters -/

section

variable {l : Link}

theorem Link.chars_append (l : Link) (before after : List RxChar) : l.chars (before ++ after) = (l.chars before).chars after :=
  List.foldl_append

theorem Link.chars_bytes_append (l : Link) (before after : List Byte) :
    l.chars (asChars (before ++ after)) = (l.chars (asChars before)).chars (asChars after) := by
  rw [asChars, List.map_append, Link.chars_append]
  rfl

theorem Link.chars_singleton (l : Link) (c : RxChar) : l.chars [c] = l.received (l.framer.take c) := rfl

/-- A character that brings nothing about moves the framer alone. -/
theorem Link.chars_nothing {c : RxChar} {f : Framer} (quiet : l.framer.take c = (f, .nothing)) (rest : List RxChar) :
    l.chars (c :: rest) = ({ l with framer := f } : Link).chars rest := by
  rw [Link.chars, List.foldl_cons, Link.char, quiet]
  rfl

/-- In HUNT the framer waits for a start byte. -/
theorem Link.framed_hunt (hunt : l.framer = .hunt) : ({ l with framer := .hunt } : Link) = l := by rw [← hunt]

/-- In HUNT a byte other than 0xA5 does nothing. -/
theorem Link.chars_hunt (hunt : l.framer = .hunt) : ∀ {bytes : List Byte}, 0xA5#8 ∉ bytes → l.chars (asChars bytes) = l
  | [], _ => rfl
  | b :: bytes, absent => by
    obtain ⟨other, absent⟩ := List.ne_and_not_mem_of_not_mem_cons absent
    have quiet : l.framer.take (.byte b) = (.hunt, .nothing) := by rw [hunt, Framer.take, if_neg other.symm]
    exact (Link.chars_nothing quiet (asChars bytes)).trans ((Link.framed_hunt hunt).symm ▸ Link.chars_hunt hunt absent)

/-! ### A body handed on (R182) -/

theorem Link.deliver_queued {body : List Byte} (room : l.requests.length < 4) :
    l.deliver body = { l with requests := l.requests ++ [{ body, answered := false }] } := if_pos room

theorem Link.deliver_busy {body : List Byte} (full : ¬ l.requests.length < 4)
    (room : (l.replies.filter WaitingReply.busy).length < 8) :
    l.deliver body =
      { l with replies := l.replies ++ [{ body := [body.getD 0 0 ||| 0x80#8, body.getD 1 0, 9#8], busy := true }] } :=
  (if_neg full).trans (if_pos room)

theorem Link.deliver_refused {body : List Byte} (full : ¬ l.requests.length < 4)
    (busyFull : ¬ (l.replies.filter WaitingReply.busy).length < 8) :
    l.deliver body = { l with frameErrors := min 65535 (l.frameErrors + 1) } := (if_neg full).trans (if_neg busyFull)

/-! ### A framing error, a gap -/

theorem Framer.take_framingError {f : Framer} (inside : f ≠ .hunt) : f.take .framingError = (.hunt, .error) := by
  cases f with
  | hunt => exact absurd rfl inside
  | length | body => rfl
  | check _ _ high => cases high <;> rfl

/-- A gap does what a framing error does (R180). -/
theorem Framer.gap_eq_take (f : Framer) : f.gap = f.take .framingError := by
  cases f with
  | hunt | length | body => rfl
  | check _ _ high => cases high <;> rfl

theorem Link.gap_eq_chars (l : Link) : l.gap = l.chars [.framingError] := by
  rw [Link.gap, Framer.gap_eq_take, Link.chars_singleton]

/-- Outside HUNT a framing error ends the frame and is counted (R180). -/
theorem Link.framingError_inside (inside : l.framer ≠ .hunt) :
    l.chars [.framingError] = { l with framer := .hunt, frameErrors := min 65535 (l.frameErrors + 1) } := by
  rw [Link.chars_singleton, Framer.take_framingError inside]
  rfl

theorem Link.framingError_hunt (hunt : l.framer = .hunt) : l.chars [.framingError] = l := by
  have quiet : l.framer.take .framingError = (.hunt, .nothing) := by rw [hunt, Framer.take]
  exact (Link.chars_nothing quiet []).trans (Link.framed_hunt hunt)

/-! ### The characters of a frame -/

theorem lengthByte_toNat {body : List Byte} (most : body.length ≤ 240) : (BitVec.ofNat 8 body.length).toNat = body.length := by
  rw [BitVec.toNat_ofNat]
  omega

/-- A part of a frame past its length: of the body, and of the check once the body is whole. -/
theorem hostFrameOf_take (body : List Byte) (k : Nat) :
    (hostFrameOf body).take (k + 2) =
      0xA5#8 :: BitVec.ofNat 8 body.length ::
        (body.take k ++ (crcBytes (crc16 (BitVec.ofNat 8 body.length :: body))).take (k - body.length)) :=
  congrArg (fun rest => 0xA5#8 :: BitVec.ofNat 8 body.length :: rest) List.take_append

/-- The framer with the length and some of the body: BODY until the body is whole, then CHECK. -/
def Framer.collecting (n : Byte) (got : List Byte) : Framer :=
  if got.length < n.toNat then .body n.toNat got (crc16 (n :: got)) else .check got (crc16 (n :: got)) none

theorem Framer.collecting_ne_hunt (n : Byte) (got : List Byte) : Framer.collecting n got ≠ .hunt := by
  unfold Framer.collecting
  split <;> exact Framer.noConfusion

theorem Framer.collecting_whole {n : Byte} {got : List Byte} (whole : n.toNat = got.length) :
    Framer.collecting n got = .check got (crc16 (n :: got)) none := if_neg (by omega)

/-- A byte of the body joins what is received, and the check runs on over it. -/
theorem Framer.take_collecting {n : Byte} {got : List Byte} (short : got.length < n.toNat) (b : Byte) :
    (Framer.collecting n got).take (.byte b) = (Framer.collecting n (got ++ [b]), .nothing) := by
  have check : crcByte (crc16 (n :: got)) b = crc16 (n :: (got ++ [b])) := (crc16_snoc (n :: got) b).symm
  rw [Framer.collecting, if_pos short, Framer.take, check, Framer.collecting]
  by_cases whole : n.toNat ≤ (got ++ [b]).length
  · rw [if_pos whole, if_neg (Nat.not_lt.2 whole)]
  · rw [if_neg whole, if_pos (Nat.not_le.1 whole)]

/-- The bytes of a body up to its length, the framer having some of them. -/
theorem Link.chars_collecting {n : Byte} : ∀ {bytes got : List Byte}, got.length + bytes.length ≤ n.toNat →
    ({ l with framer := .collecting n got } : Link).chars (asChars bytes) = { l with framer := .collecting n (got ++ bytes) }
  | [], got, _ => by
    rw [List.append_nil]
    rfl
  | b :: bytes, got, fits => by
    rw [List.length_cons] at fits
    have longer : (got ++ [b]).length + bytes.length ≤ n.toNat := by
      rw [List.length_append, List.length_singleton]
      omega
    rw [List.append_cons]
    exact (Link.chars_nothing (Framer.take_collecting (by omega) b) (asChars bytes)).trans (Link.chars_collecting longer)

section

variable {body : List Byte} (hunt : l.framer = .hunt) (least : 2 ≤ body.length) (most : body.length ≤ 240)
include hunt

theorem Link.chars_start (rest : List RxChar) :
    l.chars (.byte 0xA5#8 :: rest) = ({ l with framer := .length } : Link).chars rest :=
  Link.chars_nothing (by rw [hunt, Framer.take, if_pos rfl]) rest

/-- A length outside 2 to 240 is a frame error (R180). -/
theorem Link.chars_badLength {n : Byte} (bad : n.toNat < 2 ∨ 240 < n.toNat) :
    l.chars (asChars [0xA5#8, n]) = { l with framer := .hunt, frameErrors := min 65535 (l.frameErrors + 1) } := by
  have refused : Framer.length.take (.byte n) = (.hunt, .error) := by rw [Framer.take, if_neg (by omega)]
  refine (Link.chars_start hunt (asChars [n])).trans ((Link.chars_singleton _ (.byte n)).trans ?_)
  rw [refused]
  rfl

include least most

/-- A start byte, a length within 2 to 240 and a part of the body. -/
theorem Link.chars_part {got : List Byte} (fits : got.length ≤ body.length) :
    l.chars (asChars (0xA5#8 :: BitVec.ofNat 8 body.length :: got)) =
      { l with framer := .collecting (BitVec.ofNat 8 body.length) got } := by
  have value := lengthByte_toNat most
  generalize BitVec.ofNat 8 body.length = n at value
  have begun : Framer.length.take (.byte n) = (.collecting n [], .nothing) := by
    rw [Framer.take, if_pos (by omega), Framer.collecting, if_pos (by rw [List.length_nil]; omega)]
    rfl
  refine (Link.chars_start hunt _).trans ((Link.chars_nothing begun (asChars got)).trans ?_)
  exact Link.chars_collecting (by rw [List.length_nil]; omega)

/-- The whole body and the first byte of a check. -/
theorem Link.chars_checkHigh (high : Byte) :
    l.chars (asChars (0xA5#8 :: BitVec.ofNat 8 body.length :: (body ++ [high]))) =
      { l with framer := .check body (crc16 (BitVec.ofNat 8 body.length :: body)) (some high) } := by
  refine (Link.chars_bytes_append l (0xA5#8 :: BitVec.ofNat 8 body.length :: body) [high]).trans ?_
  rw [Link.chars_part hunt least most le_rfl, Framer.collecting_whole (lengthByte_toNat most)]
  rfl

/-- The whole frame with some check: the body is handed on where the check agrees, and else a frame error (R180). -/
theorem Link.chars_frame (high low : Byte) :
    l.chars (asChars (0xA5#8 :: BitVec.ofNat 8 body.length :: (body ++ [high, low]))) =
      l.received (.hunt,
        if crcBytes (crc16 (BitVec.ofNat 8 body.length :: body)) = [high, low] then .body body else .error) := by
  rw [List.append_cons body high [low]]
  refine (Link.chars_bytes_append l (0xA5#8 :: BitVec.ofNat 8 body.length :: (body ++ [high])) [low]).trans ?_
  rw [Link.chars_checkHigh hunt least most]
  refine (Link.chars_singleton _ (.byte low)).trans ?_
  rw [Framer.take]
  split <;> rfl

theorem Link.chars_goodCheck {high low : Byte} (agree : crcBytes (crc16 (BitVec.ofNat 8 body.length :: body)) = [high, low]) :
    l.chars (asChars (0xA5#8 :: BitVec.ofNat 8 body.length :: (body ++ [high, low]))) = l.deliver body := by
  rw [Link.chars_frame hunt least most, if_pos agree]
  exact congrArg (Link.deliver body) (Link.framed_hunt hunt)

/-- A whole frame with a good check (R180, R182). -/
theorem Link.chars_hostFrameOf : l.chars (asChars (hostFrameOf body)) = l.deliver body :=
  Link.chars_goodCheck hunt least most rfl

/-- A part of a frame, its last byte missing at least, leaves the framer outside HUNT. -/
theorem Link.chars_take_hostFrameOf {received : Nat} (begun : 1 ≤ received) (part : received < (hostFrameOf body).length) :
    ∃ framer : Framer, framer ≠ .hunt ∧
      l.chars (asChars ((hostFrameOf body).take received)) = { l with framer } := by
  have total : (hostFrameOf body).length = body.length + 4 := by simp [hostFrameOf, crcBytes, u8, u16]
  obtain _ | _ | k := received
  · omega
  · exact ⟨.length, Framer.noConfusion, Link.chars_start hunt []⟩
  rw [hostFrameOf_take]
  by_cases inBody : k ≤ body.length
  · rw [Nat.sub_eq_zero_of_le inBody, List.take_zero, List.append_nil]
    exact ⟨_, Framer.collecting_ne_hunt _ _, Link.chars_part hunt least most (List.length_take_le' k body)⟩
  · rw [show k = body.length + 1 by omega, Nat.add_sub_cancel_left, List.take_of_length_le (Nat.le_succ _)]
    exact ⟨_, Framer.noConfusion, Link.chars_checkHigh hunt least most _⟩

end

end

/-! ### The events -/

section

variable {s : State} (powered : s.rstnLow = false)
include powered

theorem exec_hostFrame (bytes : List Byte) :
    exec (.hostFrame bytes) s = .next { s with link := s.link.chars (asChars bytes) } :=
  congrArg Host.Outcome.next (State.powered_high powered _)

theorem exec_frameError (bytes : List Byte) (framing : Bool) :
    exec (.frameError bytes framing) s =
      .next { s with link := s.link.chars (asChars bytes ++ if framing then [.framingError] else []) } :=
  congrArg Host.Outcome.next (State.powered_high powered _)

/-- Characters that end in a frame error of their own: a length or a check. -/
theorem exec_frameError_bytes (bytes : List Byte) :
    exec (.frameError bytes false) s = .next { s with link := s.link.chars (asChars bytes) } := by
  rw [exec_frameError powered]
  exact congrArg (fun cs => Host.Outcome.next { s with link := s.link.chars cs }) (List.append_nil _)

/-- A gap counts as a framing error does (R180). -/
theorem exec_characterGapTimeout (bytes : List Byte) :
    exec (.characterGapTimeout bytes) s = exec (.frameError bytes true) s := by
  rw [exec_frameError powered, if_pos rfl, Link.chars_append, ← Link.gap_eq_chars]
  exact congrArg Host.Outcome.next (State.powered_high powered _)

/-- The characters before a framing error come first. -/
theorem exec_frameError_after (bytes : List Byte) :
    exec (.frameError bytes true) s = exec (.frameError [] true) { s with link := s.link.chars (asChars bytes) } := by
  rw [exec_frameError powered, if_pos rfl, Link.chars_append]
  exact (exec_frameError (s := { s with link := s.link.chars (asChars bytes) }) powered [] true).symm

end

/-- Settles O4: the characters of the frame hand its body on, whose three cases are those of `Link.deliver`. -/
theorem hostFrameDelivered : Obligations.HostFrameDelivered := by
  intro s body powered hunt least most
  rw [exec_hostFrame powered, Link.chars_hostFrameOf hunt least most]
  refine congrArg Host.Outcome.next ?_
  by_cases room : s.link.requests.length < 4
  · rw [if_pos room, Link.deliver_queued room]
  by_cases busyRoom : (s.link.replies.filter WaitingReply.busy).length < 8
  · rw [if_neg room, if_pos busyRoom, Link.deliver_busy room busyRoom]
  · rw [if_neg room, if_neg busyRoom, Link.deliver_refused room busyRoom]

/-- Settles O5: the check by its definition; a frame's characters by the framer that each part of the frame leaves. -/
theorem frameErrors : Obligations.FrameErrors := by
  refine ⟨⟨rfl, fun bytes b => ?_, by decide +kernel, crcBytes_eq, fun _ => rfl, fun _ => rfl⟩, fun s powered => ?_⟩
  · rw [crc16_snoc]
    exact (foldl_crcShift (List.range 8) _).symm
  intro counted
  have uncounted (hunt : s.link.framer = .hunt) : exec (.frameError [] true) s = .next s := by
    rw [exec_frameError powered]
    exact congrArg (fun link => Host.Outcome.next { s with link }) (Link.framingError_hunt hunt)
  have error (inside : s.link.framer ≠ .hunt) : exec (.frameError [] true) s = counted := by
    rw [exec_frameError powered]
    exact congrArg (fun link => Host.Outcome.next { s with link }) (Link.framingError_inside inside)
  refine ⟨fun inside => ⟨error inside, (exec_characterGapTimeout powered []).trans (error inside)⟩,
    fun bytes => ⟨_, exec_hostFrame powered bytes, exec_frameError_after powered bytes, ?_⟩,
    fun hunt => ⟨uncounted hunt, (exec_characterGapTimeout powered []).trans (uncounted hunt),
      fun bytes absent => ?_, fun body received least most begun part => ?_, fun n bad => ?_,
      fun body high low least most disagree => ?_⟩⟩
  · rw [exec_characterGapTimeout powered, exec_frameError_after powered]
    exact (exec_characterGapTimeout (s := { s with link := s.link.chars (asChars bytes) }) powered []).symm
  · rw [exec_hostFrame powered, Link.chars_hunt hunt absent]
  · obtain ⟨framer, inside, chars⟩ := Link.chars_take_hostFrameOf hunt least most begun part
    exact ⟨framer, inside, by rw [exec_hostFrame powered, chars]⟩
  · rw [exec_frameError_bytes powered, Link.chars_badLength hunt bad]
  · rw [exec_frameError_bytes powered, Link.chars_frame hunt least most, if_neg (Ne.symm disagree)]
    rfl

end Sys2Proof.Machine
end

section
/-!
PROOFS. The host link's transmitter (O6): the bytes of a notice, and which frame an idle transmitter begins.
-/
namespace Sys2Proof.Machine

/-! ### The bytes of a notice -/

/-- A kind of notice is numbered by its place in Table 10-1, counted from 1. -/
theorem NoticeKind.num_eq (k : NoticeKind) : k.num =
    [NoticeKind.resetDone, .dayRolled, .busArrived, .unknownBus, .positionCorrected, .sightLost, .noPlan, .planNote, .planEnded,
      .planFault, .planStalled, .turnCalled, .turnDone, .turnTakenOver, .wrongBus, .callMissed, .pointFault, .pointDown, .pointUp,
      .berthAssigned, .noBerth, .parked, .mispark, .unplannedEntry, .entryLapsed, .laneMismatch, .laneOverfull, .laneDisorder,
      .unsanctionedExit, .released, .departed, .swapped, .headBlocked, .releaseLapsed, .releaseWithdrawn, .unscheduledExit,
      .missedSlot, .stationLost, .stationBack, .roundCut, .askResult, .lineRestarted].idxOf k + 1 := by
  cases k <;> rfl

/-! ### What a transmitter begins -/

theorem freeAnswered_eq_eraseP : ∀ l : List RequestEntry, freeAnswered l = l.eraseP RequestEntry.answered
  | [] => rfl
  | r :: rest => by
    rw [freeAnswered, List.eraseP_cons, freeAnswered_eq_eraseP rest]
    cases r.answered <;> rfl

section

variable {l : Link}

theorem Link.beginReply_sending (sending : l.sending.isSome) : l.beginReply = l := by
  obtain ⟨frame, sending⟩ := Option.isSome_iff_exists.1 sending
  rw [Link.beginReply, sending]

/-- No reply may begin: none waits, or RESET_DONE is owed (R182, R185). -/
theorem Link.beginReply_none (none : l.replies = [] ∨ l.awaitResetDone = true) : l.beginReply = l := by
  unfold Link.beginReply
  split
  · next _ done replies =>
    rw [done, replies] at none
    simp at none
  · rfl

/-- The idle transmitter begins the oldest reply, and its request's entry is freed (R185). -/
theorem Link.beginReply_oldest {r : WaitingReply} {rest : List WaitingReply} (idle : l.sending = none)
    (done : l.awaitResetDone = false) (oldest : l.replies = r :: rest) :
    l.beginReply =
      { l with
        sending := some (hostFrameOf r.body)
        replies := rest
        requests := if r.busy then l.requests else l.requests.eraseP RequestEntry.answered } := by
  rw [Link.beginReply, idle, done, oldest, freeAnswered_eq_eraseP]

end

section

variable {s : State}

theorem State.beginNotice_sending (sending : s.link.sending.isSome) : s.beginNotice = s := by
  obtain ⟨frame, sending⟩ := Option.isSome_iff_exists.1 sending
  rw [State.beginNotice, sending]

theorem State.beginNotice_empty (empty : s.yard.notices.queue = []) : s.beginNotice = s := by
  unfold State.beginNotice
  rw [empty]
  cases s.link.sending <;> rfl

/-- A reply that may begin goes before every notice (R185). -/
theorem State.beginNotice_reply (reply : s.link.replies ≠ []) (done : s.link.awaitResetDone = false) : s.beginNotice = s := by
  have waits : ¬ (s.link.awaitResetDone || s.link.replies.isEmpty) = true := by
    rw [done, Bool.false_or, List.isEmpty_iff]
    exact reply
  unfold State.beginNotice
  split
  · exact if_neg waits
  · rfl

/-- The idle transmitter begins the oldest notice when no reply may go first (R177, R185). -/
theorem State.beginNotice_oldest {n : Notice} {rest : List Notice} (idle : s.link.sending = none)
    (oldest : s.yard.notices.queue = n :: rest) (first : s.link.replies = [] ∨ s.link.awaitResetDone = true) :
    s.beginNotice =
      { s with
        link := { s.link with sending := some (hostFrameOf n.body), awaitResetDone := false }
        yard := { s.yard with notices := { s.yard.notices with queue := rest } } } := by
  have may : (s.link.awaitResetDone || s.link.replies.isEmpty) = true := by
    rw [Bool.or_eq_true, List.isEmpty_iff]
    exact first.symm
  unfold State.beginNotice
  rw [idle, oldest]
  exact if_pos may

end

/-- Settles O6: a begin's guards are those of `Link.beginReply` and `State.beginNotice`. -/
theorem transmitterOrder : Obligations.TransmitterOrder := by
  refine ⟨?_, fun s powered => ?_⟩
  · intro n byte kinds place
    have number : byte (kinds.idxOf n.kind + 1) = BitVec.ofNat 8 n.kind.num := congrArg byte n.kind.num_eq.symm
    have bytes : place = [BitVec.ofNat 8 (placeKind n.place), BitVec.ofNat 8 (placeNumber n.place)] := by
      dsimp only [place]
      rcases n.place with _ | _ | _ | _ <;> rfl
    rw [number, bytes]
    rfl
  have reply : exec .replyFrameBegin s = .next { s with link := s.link.beginReply } :=
    congrArg Host.Outcome.next (State.powered_high powered _)
  have notice : exec .noticeFrameBegin s = .next s.beginNotice := congrArg Host.Outcome.next (State.powered_high powered _)
  refine ⟨congrArg Host.Outcome.next (State.powered_high powered _), fun sending => ⟨?_, ?_⟩, fun idle =>
    ⟨fun none => ?_, fun r rest oldest done => ⟨?_, ?_⟩, fun empty => ?_, fun n rest oldest first => ?_⟩⟩
  · rw [reply, Link.beginReply_sending sending]
  · rw [notice, State.beginNotice_sending sending]
  · rw [reply, Link.beginReply_none none]
  · rw [notice, State.beginNotice_reply (oldest ▸ List.cons_ne_nil r rest) done]
  · rw [reply, Link.beginReply_oldest idle done oldest]
  · rw [notice, State.beginNotice_empty empty]
  · rw [notice, State.beginNotice_oldest idle oldest first]

end Sys2Proof.Machine
end

section
/-!
PROOFS. The stages of a taking (O8), with the lengths of every kind, and ECHO (O9).
-/
namespace Sys2Proof.Machine

/-! ### The lengths of 11.6 -/

/-- The lengths of a kind with a form, by its first field (log 16). -/
def formLengths (first n0 n1 : Nat) : List Nat := if first = 0 then [n0] else if first = 1 then [n1] else [n0, n1]

/-- Kinds of a fixed length, with the lengths that the first field leaves. -/
def fixedLengths (first : Nat) : List (List Nat × List Nat) :=
  [([0x04, 0x07, 0x08, 0x33, 0x34, 0x39, 0x3E], [2]), ([0x24, 0x29, 0x2A, 0x2B, 0x2C, 0x35, 0x3A], [3]),
   ([0x13, 0x1B, 0x1C, 0x21, 0x22, 0x28, 0x31], [4]), ([0x06, 0x12, 0x19, 0x2F, 0x3D], [5]), ([0x1A, 0x30, 0x32], [6]),
   ([0x2D, 0x38], [7]), ([0x10], [9]), ([0x01], formLengths first 8 4), ([0x02], formLengths first 7 5),
   ([0x03], formLengths first 5 4), ([0x20], formLengths first 5 3), ([0x3F], List.range' 2 238)]

/-- Kinds that carry a list: kind, offset of the count byte, bytes of an item, least and greatest count. -/
def listLengths : List (Nat × Nat × Nat × Nat × Nat) :=
  [(0x05, 2, 3, 1, 13), (0x11, 4, 3, 1, 6), (0x18, 4, 6, 1, 16), (0x2E, 3, 2, 0, 255), (0x3C, 2, 2, 0, 42)]

/-- The body has a length of its kind's layout (R183 stage 2). -/
def LengthFits (b : List Byte) : Prop :=
  (∃ r ∈ fixedLengths (byteAt b 2), byteAt b 0 ∈ r.1 ∧ b.length ∈ r.2) ∨
    ∃ r ∈ listLengths, match r with
      | (k, at_, size, low, high) =>
        byteAt b 0 = k ∧ low ≤ byteAt b at_ ∧ byteAt b at_ ≤ high ∧ b.length = at_ + 1 + size * byteAt b at_

theorem exactly_iff (n : Nat) (b : List Byte) : exactly n b = true ↔ b.length = n := beq_iff_eq

theorem byForm_iff {n0 n1 : Nat} (least0 : 3 ≤ n0) (least1 : 3 ≤ n1) (b : List Byte) :
    byForm n0 n1 b = true ↔ b.length ∈ formLengths (byteAt b 2) n0 n1 := by
  unfold byForm formLengths
  by_cases short : 3 ≤ b.length
  · rw [if_pos short]
    repeat' split
    all_goals simp
  · rw [if_neg short]
    repeat' split
    all_goals simp; omega

theorem counted_iff (at_ size low high : Nat) (b : List Byte) : counted at_ size low high b = true ↔
    low ≤ byteAt b at_ ∧ byteAt b at_ ≤ high ∧ b.length = at_ + 1 + size * byteAt b at_ := by
  simp only [counted, Bool.and_eq_true, decide_eq_true_eq, beq_iff_eq, and_assoc]
  refine and_iff_right_of_imp fun ⟨_, _, length⟩ => ?_
  rw [length]
  omega

theorem ofKindSel_iff (k v : Nat) (b : List Byte) :
    ofKindSel k v b = true ↔ byteAt b 0 = k ∧ 3 ≤ b.length ∧ byteAt b 2 = v := by
  simp [ofKindSel, ofKind, and_assoc]

theorem kind_of_ofKindElse {k v : Nat} {b : List Byte} (own : ofKindElse k v b = true) : byteAt b 0 = k :=
  beq_iff_eq.1 (Bool.and_eq_true_iff.1 own).1

theorem unknownKind_takes_iff (b : List Byte) : unknownKindRequest.takes b = true ↔ byteAt b 0 ∉ requestKinds := by
  simp [unknownKindRequest]

/-- The lengths of a kind that stands in the fixed lengths alone. -/
theorem lengthFits_fixed {b : List Byte} {k : Nat} {kinds lengths : List Nat} (kind : byteAt b 0 = k)
    (entry : (fixedLengths (byteAt b 2)).filter (fun r => r.1.contains k) = [(kinds, lengths)])
    (unlisted : listLengths.filter (fun r => r.1 == k) = []) : LengthFits b ↔ b.length ∈ lengths := by
  have fixed (r : List Nat × List Nat) : r ∈ fixedLengths (byteAt b 2) ∧ k ∈ r.1 ↔ r = (kinds, lengths) := by
    rw [← List.mem_singleton, ← entry, List.mem_filter, List.contains_iff_mem]
  have noList : ∀ r ∈ listLengths, r.1 ≠ k := by simpa [List.filter_eq_nil_iff] using unlisted
  rw [LengthFits, kind]
  constructor
  · rintro (⟨r, member, ofKind, fits⟩ | ⟨r, member, ofKind, -⟩)
    · obtain rfl := (fixed r).1 ⟨member, ofKind⟩
      exact fits
    · exact absurd ofKind.symm (noList r member)
  · intro fits
    obtain ⟨member, ofKind⟩ := (fixed _).2 rfl
    exact .inl ⟨_, member, ofKind, fits⟩

/-- The length of a kind that stands in the lists alone. -/
theorem lengthFits_listed {b : List Byte} {k at_ size low high : Nat} (kind : byteAt b 0 = k)
    (unfixed : (fixedLengths (byteAt b 2)).filter (fun r => r.1.contains k) = [])
    (entry : listLengths.filter (fun r => r.1 == k) = [(k, at_, size, low, high)]) :
    LengthFits b ↔ low ≤ byteAt b at_ ∧ byteAt b at_ ≤ high ∧ b.length = at_ + 1 + size * byteAt b at_ := by
  have listed (r : Nat × Nat × Nat × Nat × Nat) : r ∈ listLengths ∧ r.1 = k ↔ r = (k, at_, size, low, high) := by
    rw [← List.mem_singleton (b := (k, at_, size, low, high)), ← entry, List.mem_filter, beq_iff_eq]
  have noFixed : ∀ r ∈ fixedLengths (byteAt b 2), k ∉ r.1 := by simpa [List.filter_eq_nil_iff] using unfixed
  rw [LengthFits, kind]
  constructor
  · rintro (⟨r, member, ofKind, -⟩ | ⟨r, member, ofKind, fits⟩)
    · exact absurd ofKind (noFixed r member)
    · obtain rfl := (listed r).1 ⟨member, ofKind.symm⟩
      exact fits
  · intro fits
    exact .inr ⟨_, ((listed _).2 rfl).1, rfl, fits⟩

/-- A row of one length, the only one of its kind. -/
theorem exactly_iff_fits {b : List Byte} {k n : Nat} {kinds : List Nat} (kind : byteAt b 0 = k)
    (entry : (fixedLengths (byteAt b 2)).filter (fun r => r.1.contains k) = [(kinds, [n])])
    (unlisted : listLengths.filter (fun r => r.1 == k) = []) : exactly n b = true ↔ LengthFits b :=
  (exactly_iff n b).trans (List.mem_singleton.symm.trans (lengthFits_fixed kind entry unlisted).symm)

/-- A row's length test is the one of its kind (log 16). -/
theorem Request.length_iff {c : Instr} {q : Request} (row : requestOf c = some q) {b : List Byte} (own : q.takes b = true)
    (known : byteAt b 0 ∈ requestKinds) : q.length b = true ↔ LengthFits b := by
  cases c <;> simp only [requestOf, Option.some.injEq, reduceCtorEq] at row <;> subst row
  case unknownKind => exact absurd known ((unknownKind_takes_iff b).1 own)
  case laneDefine | pointDefine | stationDefine | turnQueryQueue =>
    exact (byForm_iff (by decide) (by decide) b).trans (lengthFits_fixed (kind_of_ofKindElse own) rfl rfl).symm
  case laneDefineRemove | pointDefineRemove | stationDefineRemove | turnQueryPoints =>
    obtain ⟨kind, -, form⟩ := (ofKindSel_iff _ _ b).1 own
    exact exactly_iff_fits kind (by rw [form]; rfl) rfl
  case busQueryList | frostSetOff | laneQueryWaits => exact exactly_iff_fits ((ofKindSel_iff _ _ b).1 own).1 rfl rfl
  case busQueryRecord | frostSetOn | laneQueryLane => exact exactly_iff_fits (kind_of_ofKindElse own) rfl rfl
  case timingSet | busSet | planWrite | laneSet | noticeMap =>
    exact (counted_iff _ _ _ _ b).trans (lengthFits_listed (beq_iff_eq.1 own) rfl rfl).symm
  case echo =>
    have length : echoRequest.length b = true ↔ b.length ∈ List.range' 2 238 := by
      simp [echoRequest, List.mem_range'_1]
      omega
    exact length.trans (lengthFits_fixed (beq_iff_eq.1 own) rfl rfl).symm
  all_goals exact exactly_iff_fits (beq_iff_eq.1 own) rfl rfl

/-! ### The yard modes of Table 1-2 -/

theorem anyMode_iff {k : Nat} (unlisted : k ∉ layoutKinds ∧ k ∉ runningKinds) (m : YardMode) :
    anyMode m = true ↔ acceptedIn m k := by
  cases m
  · exact iff_of_true rfl unlisted.2
  · exact iff_of_true rfl unlisted.1

theorem inRunning_iff {k : Nat} (listed : k ∉ layoutKinds ∧ k ∈ runningKinds) (m : YardMode) :
    inRunning m = true ↔ acceptedIn m k := by
  cases m
  · exact iff_of_false Bool.false_ne_true (not_not_intro listed.2)
  · exact iff_of_true rfl listed.1

theorem inUnconfigured_iff {k : Nat} (listed : k ∈ layoutKinds ∧ k ∉ runningKinds) (m : YardMode) :
    inUnconfigured m = true ↔ acceptedIn m k := by
  cases m
  · exact iff_of_true rfl listed.2
  · exact iff_of_false Bool.false_ne_true (not_not_intro listed.1)

/-- A row's mode test is Table 1-2's for its kind. -/
theorem Request.mode_iff {c : Instr} {q : Request} (row : requestOf c = some q) {b : List Byte} (own : q.takes b = true)
    (known : byteAt b 0 ∈ requestKinds) (m : YardMode) : q.mode m = true ↔ acceptedIn m (byteAt b 0) := by
  cases c <;> simp only [requestOf, Option.some.injEq, reduceCtorEq] at row <;> subst row
  case unknownKind => exact absurd known ((unknownKind_takes_iff b).1 own)
  case laneDefine | pointDefine | stationDefine =>
    rw [kind_of_ofKindElse own]
    exact inUnconfigured_iff (by decide) m
  case laneDefineRemove | pointDefineRemove | stationDefineRemove =>
    rw [((ofKindSel_iff _ _ b).1 own).1]
    exact inUnconfigured_iff (by decide) m
  case layoutCommit =>
    rw [beq_iff_eq.1 own]
    exact inUnconfigured_iff (by decide) m
  case busQueryRecord =>
    rw [kind_of_ofKindElse own]
    exact anyMode_iff (by decide) m
  case busQueryList =>
    rw [((ofKindSel_iff _ _ b).1 own).1]
    exact anyMode_iff (by decide) m
  case timingSet | clockSet | statusQuery | yardReset | busEnrol | busSet | busWithdraw | planWrite | planRead | lineAsk |
      lineRestart | stationQuery | noticeMap | noticeEnable | noticeTally | echo =>
    rw [beq_iff_eq.1 own]
    exact anyMode_iff (by decide) m
  case turnQueryQueue | frostSetOn | laneQueryLane =>
    rw [kind_of_ofKindElse own]
    exact inRunning_iff (by decide) m
  case turnQueryPoints | frostSetOff | laneQueryWaits =>
    rw [((ofKindSel_iff _ _ b).1 own).1]
    exact inRunning_iff (by decide) m
  all_goals
    rw [beq_iff_eq.1 own]
    exact inRunning_iff (by decide) m

/-! ### The stages -/

/-- Settles O8: the row of the body tests the length and the mode of its kind, and its action answers none of the three results. -/
theorem stagesOfTaking : Obligations.StagesOfTaking := by
  intro s body taken kind first chosen fixed lists fits
  refine ⟨fun unknown => ?_, fun known c q row own => ?_⟩
  · exact exec_acts (c := .unknownKind) rfl taken ((unknownKind_takes_iff body).2 unknown) rfl (anyMode_eq _) rfl
  have length : q.length body = true ↔ fits := Request.length_iff row own known
  have mode : q.mode s.mode = true ↔ acceptedIn s.mode kind := Request.mode_iff row own known s.mode
  have modelled : c ≠ .unknownKind := by
    rintro rfl
    obtain rfl := Option.some.inj row
    exact (unknownKind_takes_iff body).1 own known
  refine ⟨fun long => ?_, fun fit refused => ?_, fun fit accepted => ?_⟩
  · exact exec_badLength row taken own (Bool.eq_false_of_not_eq_true (mt length.1 long))
  · exact exec_wrongMode row taken own (length.2 fit) (Bool.eq_false_of_not_eq_true (mt mode.1 refused))
  · exact ⟨_, _, _, exec_acts row taken own (length.2 fit) (mode.2 accepted) rfl, Request.act_result row modelled body s⟩

/-- Settles O9: at most 237 data bytes make a body of at most 239. -/
theorem echoReturnsItsData : Obligations.EchoReturnsItsData := by
  intro s tag data taken
  have length : echoRequest.length (request 0x3F tag data) = decide (data.length ≤ 237) := by
    simp [echoRequest, request]
    omega
  by_cases fits : data.length ≤ 237
  · rw [if_pos fits]
    exact exec_acts (c := .echo) rfl taken rfl (length.trans (decide_eq_true fits)) (anyMode_eq _) rfl
  · rw [if_neg fits]
    exact exec_badLength (c := .echo) rfl taken rfl (length.trans (decide_eq_false fits))

end Sys2Proof.Machine
end

section
/-!
PROOFS. TURN_QUERY's two forms (O20).
-/
namespace Sys2Proof.Machine

/-! ### TURN_QUERY's reply data -/

/-- A pool entry of a QUEUE reply, its codes written out (R78). -/
theorem PoolEntry.bytes_eq (t : PoolEntry) : t.bytes =
    u16 t.bus ++ u24 t.time ++
      (match t.request with
       | .fuel k => u8 (if k = .diesel then 0 else 1)
       | .wash program passes => u8 program ++ u8 passes) ++
      u8 t.skip ++
      (match t.status with
       | .waiting => [0#8, 0#8, 0#8]
       | .called p => u8 1 ++ pointBytes p
       | .serving p => u8 2 ++ pointBytes p) := by
  have request : t.request.bytes =
      match t.request with
      | .fuel k => u8 (if k = .diesel then 0 else 1)
      | .wash program passes => u8 program ++ u8 passes := by
    cases t.request with
    | fuel k => cases k <;> rfl
    | wash program passes => rfl
  have status : t.status.bytes =
      match t.status with
      | .waiting => [0#8, 0#8, 0#8]
      | .called p => u8 1 ++ pointBytes p
      | .serving p => u8 2 ++ pointBytes p := by
    cases t.status <;> rfl
  rw [PoolEntry.bytes, request, status]

/-- TURN_QUERY QUEUE's reply data with its list's count byte written out (R78). -/
theorem queueBytes_eq (queue : List PoolEntry) (start : Nat) : queueBytes queue start =
    u8 queue.length ++ u8 ((queue.drop start).take 12).length ++
      (((queue.drop start).take 12).map PoolEntry.bytes).flatten := by
  rw [queueBytes, slice, listBytes_map, ← List.append_assoc]

/-- TURN_QUERY POINTS' reply data with its list's count byte written out (R78). -/
theorem Yard.pointsBytes_eq (y : Yard) :
    y.pointsBytes = u8 y.points.length ++ (y.points.map Point.bytes).flatten := listBytes_map Point.bytes y.points

/-- TURN_QUERY QUEUE of a queue and a start in their ranges (R78). -/
theorem queryQueue_inRange {b : List Byte} {s : State} (form : byteAt b 2 = 0)
    (range : 1 ≤ byteAt b 3 ∧ byteAt b 3 ≤ 3 ∧ byteAt b 4 ≤ 47) :
    queryQueue b s = (s, .ok (queueBytes (s.yard.queueOf (byteAt b 3)) (byteAt b 4))) := if_pos ⟨form, range⟩

/-- TURN_QUERY QUEUE of a queue or a start out of its range, or of an unknown form (R78). -/
theorem queryQueue_refused {b : List Byte} {s : State}
    (out : ¬ (byteAt b 2 = 0 ∧ 1 ≤ byteAt b 3 ∧ byteAt b 3 ≤ 3 ∧ byteAt b 4 ≤ 47)) :
    queryQueue b s = (s, .refuse .badValue) := if_neg out

/-- Settles O20: the two forms by their rows, the fields of the replies by their codes. -/
theorem turnsQueried : Obligations.TurnsQueried := by
  intro s tag running pointField entry
  have mode : inRunning s.mode = true := inRunning_eq running
  have pointed (p : PointId) : pointBytes p = pointField p := by cases p <;> rfl
  refine ⟨?_, ?_, ?_⟩
  · intro code start body queue listed inRange taken
    have answered {r : Reply} (act : queryQueue body s = (s, r)) :
        exec .turnQueryQueue s = .next (s.reply body r.result r.data) := exec_acts rfl taken rfl rfl mode act
    refine ⟨fun out => answered (r := .refuse .badValue) (queryQueue_refused fun within => out within.2), fun within => ?_⟩
    refine (answered (queryQueue_inRange (b := body) rfl within)).trans ?_
    refine congrArg (fun data => Host.Outcome.next (s.reply body .ok data)) ?_
    have entries : PoolEntry.bytes = entry := by
      funext t
      simp only [PoolEntry.bytes_eq, pointed]
      rfl
    rw [Reply.ok, queueBytes_eq, entries]
    rfl
  · intro body taken
    refine (exec_acts (c := .turnQueryPoints) (r := .ok s.yard.pointsBytes) rfl taken rfl rfl mode rfl).trans ?_
    refine congrArg (fun data => Host.Outcome.next (s.reply body .ok data)) ?_
    refine s.yard.pointsBytes_eq.trans (congrArg (fun record => _ ++ (s.yard.points.map record).flatten) (funext fun q => ?_))
    rw [Point.bytes, pointed]
    rfl
  · intro form fields body unknown length taken
    have own : ofKindElse 0x20 1 body = true := ofKindElse_request (by decide) (by omega)
    have long : byForm 5 3 body = true := byForm_request unknown (by omega)
    have other : byteAt body 2 ≠ 0 := fun zero => by
      have : form.toNat = 0 := zero
      omega
    exact exec_acts (c := .turnQueryQueue) rfl taken own long mode (queryQueue_refused fun within => other within.1)

end Sys2Proof.Machine
end

section
/-!
PROOFS. What the steps at a point leave of the other points, the turns and the rest of the yard: a claim released, a command wanted, a
record that stops naming its bus. Then the expiries of a point's timers (O38).
-/
namespace Sys2Proof.Machine

variable {e : Env} {x y z : Yard} {p : PointId} {q : Point} {f : Nat} {b : Bus} {t : PoolEntry}

/-! ### The other points -/

/-- A point's record but for its selection flag. -/
def Point.unselected (q : Point) : Point := { q with selection := false }

/-- From `y` to `z` at most the selection flag changed at a point. -/
def Yard.SameButSelection (r : PointId) (y z : Yard) : Prop :=
  (z.point? r).map Point.unselected = (y.point? r).map Point.unselected

/-- From `y` to `z` at most the selection flag changed at the points other than `p`. -/
def Yard.OthersStand (p : PointId) (y z : Yard) : Prop := ∀ r, r ≠ p → y.SameButSelection r z

theorem Yard.SameButSelection.raise (r : PointId) (y : Yard) : y.SameButSelection r y.raise := by
  unfold Yard.SameButSelection
  rw [Yard.point_raise, Option.map_map]
  refine congrArg (fun view => (y.point? r).map view) (funext fun q => ?_)
  by_cases free : q.state = .free <;> simp [Point.unselected, free]

namespace Yard.OthersStand

theorem refl (p : PointId) (y : Yard) : y.OthersStand p y := fun _ _ => rfl

theorem trans (h : x.OthersStand p y) (k : y.OthersStand p z) : x.OthersStand p z := fun r other =>
  (k r other).trans (h r other)

theorem same (points : z.points = y.points) : y.OthersStand p z := fun r _ => by
  rw [Yard.SameButSelection, Yard.point?, points]
  rfl

theorem raise (p : PointId) (y : Yard) : y.OthersStand p y.raise := fun r _ => .raise r y

theorem setPoint {g : Point → Point} (keeps : ∀ q, (g q).id = q.id) (y : Yard) : y.OthersStand p (y.setPoint p g) :=
  fun r other => by rw [Yard.SameButSelection, Yard.point_setPoint _ _ _ keeps, if_neg other]

theorem wantPoint (order : Order) (y : Yard) : y.OthersStand p (y.wantPoint p order) := by
  cases found : y.point? p with
  | none => rw [Yard.wantPoint, found]; exact refl p y
  | some q =>
    obtain ⟨_, _, others, _⟩ := Yard.wantPoint_spec found order
    intro r other
    rw [Yard.SameButSelection, others r other]

theorem vacatePoint {g : Point → Point} (keeps : ∀ q, (g q).id = q.id) (y : Yard) : y.OthersStand p (y.vacatePoint p g) := by
  cases found : y.point? p with
  | none => rw [Yard.vacatePoint, found]; exact refl p y
  | some q =>
    rw [Yard.vacatePoint_eq found]
    split
    · exact (setPoint keeps y).trans (raise p _)
    · exact setPoint keeps y

end Yard.OthersStand

/-! ### A record that stops naming its bus -/

/-- The record itself, where a point that becomes FREE has its selection event (R60). -/
theorem Yard.vacatePoint_found {g : Point → Point} (found : y.point? p = some q) (keeps : ∀ q, (g q).id = q.id)
    (selected : (g q).state = .free → (g q).selection = true) : (y.vacatePoint p g).point? p = some (g q) := by
  have set : (y.setPoint p g).point? p = some (g q) := by rw [Yard.point_setPoint _ _ _ keeps, if_pos rfl, found]; rfl
  rw [Yard.vacatePoint_eq found]
  split
  · rw [Yard.point_raise, set]
    refine congrArg some ?_
    dsimp only
    by_cases free : (g q).state = .free
    · rw [if_pos free, ← selected free]
    · rw [if_neg free]
  · exact set

theorem Yard.vacatePoint_rest (g : Point → Point) (y : Yard) :
    y.vacatePoint p g = { y with points := (y.vacatePoint p g).points } := by
  unfold Yard.vacatePoint
  repeat' split
  all_goals rfl

/-- A record sent "to FREE" that becomes FREE has its selection event (R60, R71). -/
theorem Point.freed_selected (frost : Bool) (q : Point) (free : (q.freed frost).state = .free) :
    (q.freed frost).selection = true := by
  unfold Point.freed at free ⊢
  by_cases close : q.closePending = true
  · rw [if_pos close] at free
    cases free
  · rw [if_neg close] at free ⊢
    by_cases frozen : (q.id.isWash && frost) = true
    · rw [if_pos frozen] at free
      cases free
    · rw [if_neg frozen]

/-! ### A claim released -/

/-- A claim that stands is released in its lane alone, with a selection event (R113). -/
theorem Yard.releaseClaim_cases (f : Nat) (reason : ReleaseReason) (y : Yard) :
    y.releaseClaim f reason = y ∨ ∃ n z, y.LaneOnly n z ∧ y.releaseClaim f reason = z.raise := by
  unfold Yard.releaseClaim
  split
  · next l _ =>
    obtain ⟨z, only, cleared⟩ := Yard.clearRelease_rest l.number y
    exact .inr ⟨l.number, z, only, cleared⟩
  · exact .inl rfl

theorem Yard.releaseClaim_rest (f : Nat) (reason : ReleaseReason) (y : Yard) : y.releaseClaim f reason =
    { y with
      points := (y.releaseClaim f reason).points, lanes := (y.releaseClaim f reason).lanes
      cmdQueue := (y.releaseClaim f reason).cmdQueue } := by
  obtain same | ⟨n, z, only, released⟩ := Yard.releaseClaim_cases f reason y
  · rw [same]
  · rw [released, Yard.raise, only.rest]

theorem Yard.releaseClaim_turn (f : Nat) (reason : ReleaseReason) (g : Nat) (y : Yard) :
    (y.releaseClaim f reason).turn? g = y.turn? g := by
  rw [Yard.releaseClaim_rest]
  rfl

/-- A released claim raises selection at the FREE points, and changes nothing else of a point. -/
theorem Yard.SameButSelection.releaseClaim (r : PointId) (f : Nat) (reason : ReleaseReason) (y : Yard) :
    y.SameButSelection r (y.releaseClaim f reason) := by
  obtain same | ⟨n, z, only, released⟩ := Yard.releaseClaim_cases f reason y
  · rw [same]
    rfl
  · rw [released]
    refine (Yard.SameButSelection.raise r z).trans ?_
    rw [only.rest]
    rfl

/-! ### A call timer -/

/-- "Missed calls" handed to a CALLED bus: the plan fault of R50. -/
theorem Yard.missedCallsSignal_called (found : y.bus? f = some b) (called : b.wait = .called) :
    y.missedCallsSignal e f = y.faulted e f .missedCalls (b.cursor.getD 0) := by
  simp only [Yard.missedCallsSignal, found, if_pos called]
  rfl

/-- "Turn returned" handed to a CALLED bus (R50). -/
theorem Yard.turnReturned_called (found : y.bus? f = some b) (called : b.wait = .called) :
    y.turnReturned f = y.setWait f .turn := if_pos ((Yard.waitIn_iff found _).2 (by simp [called]))

/-- A CALLED bus that missed its call joins the tail of its queue again (R58). -/
theorem Yard.requeueTurn_called (found : y.bus? f = some b) (called : b.wait = .called) (entry : y.turn? f = some t) :
    y.requeueTurn e f =
      (((y.freeTurn f).joinQueue (if t.request.isWash then 3 else 2) { t with time := e.clock, status := .waiting }).setWait f
        .turn).raise := by
  have still (code : Nat) (u : PoolEntry) : ((y.freeTurn f).joinQueue code u).bus? f = some b := by
    rw [← found]
    unfold Yard.joinQueue
    repeat' split
    all_goals rfl
  simp only [Yard.requeueTurn, entry]
  rw [Yard.turnReturned_called (still _ _) called]

/-- A call timer that does not run, or not in CALLING, has no expiry (log 1). -/
theorem Yard.callTimeout_idle (found : y.point? p = some q) (idle : q.state ≠ .calling ∨ q.callTimer = none) :
    y.callTimeout e p = y := by
  simp only [Yard.callTimeout, found]
  split
  · next calling runs _ =>
    rcases idle with other | stopped
    · exact absurd calling other
    · rw [stopped] at runs
      cases runs
  · rfl

/-- A missed call counted (R66): missed calls plus one, the claim released, CALL_MISSED posted. -/
def Yard.callMissed (e : Env) (p : PointId) (f : Nat) (b : Bus) (y : Yard) : Yard :=
  ((y.setBus f (fun b => { b with missedCalls := min 3 (b.missedCalls + 1) })).releaseClaim f .call).post e .callMissed f
    (some (.point p)) (min 3 (b.missedCalls + 1)) b.position.laneOrZero

theorem Yard.callMissed_bus (found : y.bus? f = some b) :
    (y.callMissed e p f b).bus? f = some { b with missedCalls := min 3 (b.missedCalls + 1) } := by
  rw [Yard.callMissed, Yard.bus_post, Yard.releaseClaim_bus, Yard.bus_setBus _ _ _ (by intro; rfl), if_pos rfl, found]
  rfl

theorem Yard.callMissed_turn (g : Nat) : (y.callMissed e p f b).turn? g = y.turn? g := by
  rw [Yard.callMissed, Yard.turn_post, Yard.releaseClaim_turn]
  rfl

/-- A call timer's expiry (R66): the missed call counted, then the fault at three and a requeue below, CLEAR_CALL and FREE. -/
theorem Yard.callTimeout_eq (found : y.point? p = some q) (calling : q.state = .calling) (runs : q.callTimer.isSome)
    (named : q.bus = some f) (known : y.bus? f = some b) :
    let left := y.callMissed e p f b
    y.callTimeout e p =
      ((if 2 ≤ b.missedCalls then (left.freeTurn f).missedCallsSignal e f else left.requeueTurn e f).wantPoint p
        .clearCall).freePoint p := by
  intro left
  obtain ⟨seconds, running⟩ := Option.isSome_iff_exists.1 runs
  have counted : ((y.setBus f (fun b => { b with missedCalls := satAdd 3 b.missedCalls 1 })).releaseClaim f .call).bus? f =
      some { b with missedCalls := min 3 (b.missedCalls + 1) } := Yard.callMissed_bus (e := e) (p := p) known
  have third : 3 ≤ min 3 (b.missedCalls + 1) ↔ 2 ≤ b.missedCalls := by omega
  simp only [Yard.callTimeout, found, calling, running, named, counted, Option.map_some, Option.getD_some, third]
  rfl

/-! ### A recovery timer -/

/-- A recovery timer that does not run, or not in RECOVERING, has no expiry (log 1). -/
theorem Yard.recoveryLapse_idle (found : y.point? p = some q) (idle : q.state ≠ .recovering ∨ q.recoveryTimer = none) :
    y.islandRecoveryLapse e p = y ∧ y.washRecoveryLapse e p = y := by
  have no : ¬ (q.state = .recovering ∧ q.recoveryTimer.isSome) := by
    rintro ⟨recovering, runs⟩
    rcases idle with other | stopped
    · exact other recovering
    · simp [stopped] at runs
  simp only [Yard.islandRecoveryLapse, Yard.washRecoveryLapse, found, if_neg no, and_self]

/-- A wash lane that fails goes DOWN, the bus served there first completing its wash step (R88). -/
theorem Yard.washDown_unserved (found : y.point? p = some q) (unserved : ∀ f, q.bus = some f → y.servingAt p f = false) :
    y.washDown e p = y.downPoint e p .failed := by
  simp only [Yard.washDown, found]
  cases named : q.bus with
  | none => rfl
  | some f => simp only [unserved f named, Bool.false_eq_true, if_false]

theorem Yard.washDown_served (found : y.point? p = some q) (named : q.bus = some f) (serving : y.servingAt p f = true) :
    y.washDown e p = (y.completeWash e f q.passesLeft (some (.point p))).downPoint e p .failed := by
  simp only [Yard.washDown, found, named, serving, if_true]

/-- Settles O38: the call timer's expiry by its missed calls, the recovery timer's by the point's kind and its bus. -/
theorem pointTimersExpire : Obligations.PointTimersExpire := by
  intro s p q high found e y
  have event (g : Env → Yard → Yard) {z : Yard} (becomes : g e y = z) :
      (Host.Outcome.next (s.yardEvent g) : Host.Outcome State Fault Refusal) = .next (s.withYard z) :=
    congrArg Host.Outcome.next ((State.yardEvent_high high g).trans (congrArg s.withYard becomes))
  refine ⟨fun idle => event _ (Yard.callTimeout_idle found idle), ?_, ?_⟩
  · intro f b t calling runs named known called entry missed y1 left ends late
    have busLeft : left.bus? f = some { b with missedCalls := min 3 (b.missedCalls + 1) } :=
      Yard.callMissed_bus (e := e) (p := p) known
    have bus : y1.bus? f = some { b with missedCalls := min 3 (b.missedCalls + 1) } := busLeft
    have turn : y1.turn? f = some t := (Yard.callMissed_turn (e := e) (p := p) (b := b) f).trans entry
    have lapse := Yard.callTimeout_eq (e := e) found calling runs named known
    have signal := Yard.missedCallsSignal_called (e := e) busLeft called
    have requeued := Yard.requeueTurn_called (e := e) bus called turn
    refine ⟨fun third => event _ ?_, fun before wash => event _ ?_, fun before fuel => event _ ?_⟩
    · rw [lapse, if_pos third]
      exact congrArg (fun z => (Yard.wantPoint p .clearCall z).freePoint p) signal
    · rw [lapse, if_neg (by omega)]
      refine congrArg (fun z => (Yard.wantPoint p .clearCall z).freePoint p) (requeued.trans ?_)
      rw [if_pos wash]
      rfl
    · rw [lapse, if_neg (by omega)]
      refine congrArg (fun z => (Yard.wantPoint p .clearCall z).freePoint p) (requeued.trans ?_)
      rw [if_neg (by rw [fuel]; decide)]
      rfl
  · intro c broken set z failed
    have lapses {z : Yard} (island : p.isWash = false → y.islandRecoveryLapse e p = z)
        (wash : p.isWash = true → y.washRecoveryLapse e p = z) : exec c s = .next (s.withYard z) := by
      cases p with
      | island n => exact event (fun e => Yard.islandRecoveryLapse e (.island n)) (island rfl)
      | wash n => exact event (fun e => Yard.washRecoveryLapse e (.wash n)) (wash rfl)
    have vacated : y.vacatePoint p broken = z := Yard.vacatePoint_eq found broken
    have down : y.downPoint e p .failed = z.post e .pointDown 0 (some (.point p)) 2 0 := by
      rw [← vacated]
      rfl
    have fails (lapse : exec c s = .next (s.withYard (y.downPoint e p .failed))) : failed := by
      refine ⟨lapse.trans (congrArg (fun z => Host.Outcome.next (s.withYard z)) down), ?_⟩
      rw [← vacated]
      exact ⟨Yard.vacatePoint_rest broken y, Yard.vacatePoint_found found (fun _ => rfl) nofun,
        Yard.OthersStand.vacatePoint (g := broken) (fun _ => rfl) y⟩
    refine ⟨fun idle => ?_, fun recovering runs => ?_⟩
    · exact lapses (fun _ => (Yard.recoveryLapse_idle found idle).1) (fun _ => (Yard.recoveryLapse_idle found idle).2)
    · have island : y.islandRecoveryLapse e p = y.downPoint e p .failed := by
        rw [Yard.islandRecoveryLapse, found]
        exact if_pos ⟨recovering, runs⟩
      have wash : y.washRecoveryLapse e p = y.washDown e p := by
        rw [Yard.washRecoveryLapse, found]
        exact if_pos ⟨recovering, runs⟩
      have unserved (none : ∀ f, q.bus = some f → y.servingAt p f = false) : failed :=
        fails (lapses (fun _ => island) (fun _ => wash.trans (Yard.washDown_unserved found none)))
      refine ⟨?_, fun f lane named => ⟨fun no => ?_, fun serving => ?_⟩⟩
      · rintro (isle | empty)
        · exact fails (lapses (fun _ => island) (fun lane => by rw [isle] at lane; cases lane))
        · exact unserved (fun f named => by rw [empty] at named; cases named)
      · exact unserved (fun g other => by rw [named] at other; cases other; exact no)
      · exact lapses (fun isle => by rw [isle] at lane; cases lane) (fun _ => wash.trans (Yard.washDown_served found named serving))

end Sys2Proof.Machine
end

section
/-!
PROOFS. A selection event (O37): the scan of a queue, who is callable, the call and what it leaves.
-/
namespace Sys2Proof.Machine

variable {e : Env} {y : Yard} {p : PointId} {q : Point} {f : Nat} {b : Bus} {t : PoolEntry}

/-! ### The scan of a queue -/

section

variable (serves : PoolEntry → Bool) (callable : Nat → Bool)

/-- An entry that a scan tests: WAITING, and of a request that the point serves (R63). -/
def PoolEntry.tested (t : PoolEntry) : Bool := t.status == .waiting && serves t

/-- An entry that a scan has passed: its skip count raised where it was tested (R63). -/
def PoolEntry.passed (t : PoolEntry) : PoolEntry := if t.tested serves then { t with skip := min 255 (t.skip + 1) } else t

variable {serves callable}

/-- A scan goes on behind an entry that is not tested or whose bus is not callable. -/
theorem scanQueue_passes {rest : List PoolEntry} (passes : t.tested serves = true → callable t.bus = false) :
    scanQueue serves callable (t :: rest) =
      (t.passed serves :: (scanQueue serves callable rest).1, (scanQueue serves callable rest).2) := by
  rw [scanQueue]
  by_cases tests : t.tested serves = true
  · have within : ¬ (t.status ≠ .waiting ∨ serves t = false) := by simpa [PoolEntry.tested] using tests
    rw [if_neg within, if_neg (by rw [passes tests]; decide), PoolEntry.passed, if_pos tests]
    rfl
  · have out : t.status ≠ .waiting ∨ serves t = false := by
      simp only [PoolEntry.tested, Bool.and_eq_true, beq_iff_eq] at tests
      by_cases waits : t.status = .waiting
      · exact .inr (Bool.eq_false_of_not_eq_true fun serving => tests ⟨waits, serving⟩)
      · exact .inl waits
    rw [if_pos out, PoolEntry.passed, if_neg tests]

/-- A scan stops at the first callable bus (R63). -/
theorem scanQueue_calls {after : List PoolEntry} (tests : t.tested serves = true) (calls : callable t.bus = true) :
    ∀ {before : List PoolEntry}, (∀ x ∈ before, x.tested serves = true → callable x.bus = false) →
      scanQueue serves callable (before ++ t :: after) = (before.map (PoolEntry.passed serves) ++ t :: after, some t.bus)
  | [], _ => by
    have within : ¬ (t.status ≠ .waiting ∨ serves t = false) := by simpa [PoolEntry.tested] using tests
    rw [List.nil_append, scanQueue, if_neg within, if_pos calls]
    rfl
  | x :: before, passes => by
    rw [List.cons_append, scanQueue_passes (passes x List.mem_cons_self),
      scanQueue_calls tests calls (fun z member => passes z (List.mem_cons_of_mem x member))]
    rfl

/-- A scan that finds no callable bus passes every entry (R63). -/
theorem scanQueue_none : ∀ {queue : List PoolEntry}, (∀ x ∈ queue, x.tested serves = true → callable x.bus = false) →
    scanQueue serves callable queue = (queue.map (PoolEntry.passed serves), none)
  | [], _ => rfl
  | x :: rest, passes => by
    rw [scanQueue_passes (passes x List.mem_cons_self),
      scanQueue_none (fun z member => passes z (List.mem_cons_of_mem x member))]
    rfl

end

/-! ### Who is callable -/

/-- Some point names the bus (R59). -/
theorem Yard.named_eq_false : y.named f = false ↔ ∀ q ∈ y.points, q.bus ≠ some f := by
  simp [Yard.named]

/-- R59's conditions for a call. -/
theorem Yard.callable_iff : y.callable p f = true ↔
    ∃ b, y.bus? f = some b ∧ b.wait = .turn ∧ (∀ q ∈ y.points, q.bus ≠ some f) ∧
      (b.position = .loose ∨ b.position = .atPoint p ∨
        ∃ m l, b.position = .inLane m ∧ y.lane? m = some l ∧ l.exitEnd = some f ∧ l.release = none ∧ l.hold = 0 ∧
          l.mismatch = false ∧ l.dark = false) := by
  unfold Yard.callable
  cases found : y.bus? f with
  | none => simp
  | some b =>
    rw [Bool.and_eq_true, Bool.and_eq_true, Yard.waitIn_iff found, Bool.not_eq_true', Yard.named_eq_false]
    have stands : (match b.position with
        | .loose => true
        | .atPoint q => q == p
        | .inLane n =>
          match y.lane? n with
          | some l => l.claimable f
          | none => false
        | .outside => false) = true ↔
        b.position = .loose ∨ b.position = .atPoint p ∨
          ∃ m l, b.position = .inLane m ∧ y.lane? m = some l ∧ l.exitEnd = some f ∧ l.release = none ∧ l.hold = 0 ∧
            l.mismatch = false ∧ l.dark = false := by
      cases b.position with
      | loose => simp
      | atPoint q => simp
      | outside => simp
      | inLane n => cases lane : y.lane? n <;> simp [lane, Lane.claimable_iff]
    simp only [List.mem_singleton, and_assoc, Option.some.injEq, exists_eq_left']
    exact and_congr_right fun _ => and_congr_right fun _ => stands

/-- A taken selection event does not change who is callable. -/
theorem Yard.callable_unselected (r : PointId) (f : Nat) :
    (y.setPoint r (fun q => { q with selection := false })).callable p f = y.callable p f := by
  have named : (y.setPoint r (fun q => { q with selection := false })).named f = y.named f := by
    unfold Yard.named
    rw [Yard.setPoint_points, List.any_map]
    refine congrArg y.points.any (funext fun q => ?_)
    dsimp only [Function.comp_apply]
    split <;> rfl
  unfold Yard.callable
  rw [named]
  rfl

/-! ### The selection event -/

/-- A selection event not raised, or of no point (log 1). -/
theorem Yard.selectionEvent_idle (idle : ∀ q, y.point? p = some q → q.selection = false) : y.selectionEvent e p = y := by
  unfold Yard.selectionEvent
  cases found : y.point? p with
  | none => rfl
  | some q => exact if_neg (by rw [idle q found]; decide)

/-- A selection event taken (R60): a scan at a FREE point. -/
theorem Yard.selectionEvent_taken (found : y.point? p = some q) (raised : q.selection = true) :
    let taken := y.setPoint p (fun q => { q with selection := false })
    y.selectionEvent e p =
      if q.state = .free then (if q.id.isWash then taken.selectWash e q else taken.selectIsland e q) else taken := by
  intro taken
  simp only [Yard.selectionEvent, found, if_pos raised]
  rfl

/-- A scan by a wash lane with what it gives (R82). -/
theorem Yard.selectWash_scan {queue : List PoolEntry} {called : Option Nat}
    (scan : scanQueue (fun _ => true) (y.callable q.id) y.washQueue = (queue, called)) :
    y.selectWash e q = match called with
      | some f => ({ y with washQueue := queue } : Yard).callBus e q.id f 3
      | none => { y with washQueue := queue } := by
  simp only [Yard.selectWash, scan]
  cases called <;> rfl

/-- A scan of FUEL-PRIORITY by an island that calls a bus (R63). -/
theorem Yard.selectIsland_priority {queue : List PoolEntry}
    (scan : scanQueue (fun t => q.serves t.request) (y.callable q.id) y.fuelPriority = (queue, some f)) :
    y.selectIsland e q = ({ y with fuelPriority := queue } : Yard).callBus e q.id f 1 := by
  simp only [Yard.selectIsland, scan]

/-- A scan of FUEL-PRIORITY by an island that calls none, and of FUEL-ORDINARY after it (R63). -/
theorem Yard.selectIsland_ordinary {first second : List PoolEntry} {called : Option Nat}
    (none : scanQueue (fun t => q.serves t.request) (y.callable q.id) y.fuelPriority = (first, none))
    (scan : scanQueue (fun t => q.serves t.request) (y.callable q.id) y.fuelOrdinary = (second, called)) :
    y.selectIsland e q = match called with
      | some f => ({ y with fuelPriority := first, fuelOrdinary := second } : Yard).callBus e q.id f 2
      | .none => { y with fuelPriority := first, fuelOrdinary := second } := by
  simp only [Yard.selectIsland, none, scan]
  cases called <;> rfl

/-! ### A call -/

/-- The CALL claim a call writes first, in the lane of a bus that stands in one (R59, R64). -/
def Yard.claimCall (b : Bus) (f : Nat) (y : Yard) : Yard :=
  match b.position with
  | .inLane n => y.writeClaim n f .call
  | .outside | .loose | .atPoint _ => y

/-- A call (R64): the claim, the record CALLING with its timer, entry and plan wait, the CALL command, TURN_CALLED. -/
def Yard.called (e : Env) (q : Point) (b : Bus) (f code : Nat) (y : Yard) : Yard :=
  ((((((y.claimCall b f).setPoint q.id (fun q => { q with state := .calling, bus := some f })).setTurn f
    (fun t => { t with status := .called q.id })).setWait f .called).queueCommand (.point q.id) q.station (.call f)).setPoint q.id
      (fun q => { q with callTimer := some (e.params.callWait * 60) })).post e .turnCalled f (some (.point q.id)) code
        b.position.laneOrZero

theorem Yard.claimCall_only (b : Bus) (f : Nat) (y : Yard) : ∃ n, y.LaneOnly n (y.claimCall b f) := by
  unfold Yard.claimCall
  split
  · next n _ => exact ⟨n, .writeClaim n f .call y⟩
  all_goals exact ⟨0, .refl 0 y⟩

theorem Yard.claimCall_rest (b : Bus) (f : Nat) (y : Yard) : y.claimCall b f =
    { y with lanes := (y.claimCall b f).lanes, cmdQueue := (y.claimCall b f).cmdQueue } :=
  let ⟨_, only⟩ := Yard.claimCall_only b f y
  only.rest

/-- A call of a bus by a FREE point with no command outstanding (R64): the bus taken where it stands at the point. -/
theorem Yard.callBus_eq (known : y.bus? f = some b) (found : y.point? p = some q) (waits : b.wait = .turn)
    (quiet : y.outstanding? p = none) (code : Nat) : y.callBus e p f code =
      if b.position = .atPoint p then (y.called e q b f code).takeBus p f else y.called e q b f code := by
  obtain rfl : q.id = p := Yard.point_id found
  obtain ⟨n, only⟩ := Yard.claimCall_only b f y
  let calling := (y.claimCall b f).setPoint q.id (fun q => { q with state := .calling, bus := some f })
  let named := calling.setTurn f (fun t => { t with status := .called q.id })
  have bus : named.bus? f = some b := (only.bus f).trans known
  have granted : named.turnGranted f = named.setWait f .called :=
    if_pos ((Yard.waitIn_iff bus _).2 (by simp [waits]))
  have point : (named.setWait f .called).point? q.id = some { q with state := .calling, bus := some f } := by
    show calling.point? q.id = _
    rw [Yard.point_setPoint _ _ _ (by intro; rfl), if_pos rfl, Yard.claimCall_rest]
    exact congrArg _ found
  have none : (named.setWait f .called).outstanding? q.id = none := by
    rw [← quiet]
    show (y.claimCall b f).outstanding? q.id = _
    unfold Yard.outstanding? Yard.onLine?
    rw [only.unsent (.point q.id) nofun, Yard.claimCall_rest]
  have wanted : (named.setWait f .called).wantPoint q.id (.call f) =
      (named.setWait f .called).queueCommand (.point q.id) q.station (.call f) := by
    rw [Yard.wantPoint, point]
    simp [none]
  have steps : y.callBus e q.id f code =
      let z := (((named.turnGranted f).wantPoint q.id (.call f)).setPoint q.id
        (fun q => { q with callTimer := some (minutes e.params.callWait) })).post e .turnCalled f (some (.point q.id)) code
          b.position.laneOrZero
      if b.position = .atPoint q.id then z.takeBus q.id f else z := by
    simp only [Yard.callBus, known]
    rfl
  rw [steps, granted, wanted]
  rfl

section

variable (code : Nat)

theorem Yard.called_notices : (y.called e q b f code).notices =
    y.notices.post e.clock .turnCalled f (some (.point q.id)) code b.position.laneOrZero := by
  have rest : (y.claimCall b f).notices = y.notices := by rw [Yard.claimCall_rest]
  rw [← rest]
  rfl

theorem Yard.called_point (found : y.point? q.id = some q) : (y.called e q b f code).point? q.id =
    some { q with state := .calling, bus := some f, callTimer := some (e.params.callWait * 60) } := by
  have rest : (y.claimCall b f).point? q.id = some q := by rw [Yard.claimCall_rest]; exact found
  have calling : ((y.claimCall b f).setPoint q.id (fun q => { q with state := .calling, bus := some f })).point? q.id =
      some { q with state := .calling, bus := some f } := by
    rw [Yard.point_setPoint _ _ _ (by intro; rfl), if_pos rfl, rest]
    rfl
  rw [Yard.called, Yard.point_post, Yard.point_setPoint _ _ _ (by intro; rfl), if_pos rfl]
  exact congrArg (Option.map _) calling

theorem Yard.called_bus (known : y.bus? f = some b) : (y.called e q b f code).bus? f = some { b with wait := .called } := by
  have rest : (y.claimCall b f).bus? f = some b := by rw [Yard.claimCall_rest]; exact known
  simp [Yard.called, rest]

theorem Yard.called_turn (entry : y.turn? f = some t) :
    (y.called e q b f code).turn? f = some { t with status := .called q.id } := by
  have rest : (y.claimCall b f).turn? f = some t := by rw [Yard.claimCall_rest]; exact entry
  simp [Yard.called, Yard.turn_setTurn, rest]

/-- The CALL command of a call stands in the line command queue. -/
theorem Yard.called_command :
    { owner := .point q.id, station := q.station, order := .call f } ∈ (y.called e q b f code).cmdQueue :=
  List.mem_append_right _ List.mem_cons_self

/-- The release field of the lane of a called bus names it with CALL (R59). -/
theorem Yard.called_release {n : Nat} {l : Lane} (stands : b.position = .inLane n) (lane : y.lane? n = some l) :
    ((y.called e q b f code).lane? n).map Lane.release = some (some (f, .call)) := by
  have claimed : (y.claimCall b f).lane? n = (y.writeClaim n f .call).lane? n := by rw [Yard.claimCall, stands]
  have written : (y.setLane n (fun l => { l with release := some (f, .call) })).lane? n =
      some { l with release := some (f, .call) } := Yard.lane_setLane_found lane _ (by intro; rfl)
  obtain ⟨pending, signed⟩ := Yard.updateSign_lane written
  show ((y.claimCall b f).lane? n).map Lane.release = _
  rw [claimed, Yard.writeClaim, signed]
  rfl

end

/-! ### A bus taken for service -/

/-- A bus takes its place at a point (R67, R84): the record changes, its entry is SERVING there, "bus at point" handed to its plan. -/
def Yard.seat (p : PointId) (f : Nat) (g : Point → Point) (y : Yard) : Yard :=
  ((y.setPoint p g).setTurn f (fun t => { t with status := .serving p })).busAtPoint f

/-- A bus taken at an island (R67). -/
theorem Yard.takeBus_fuel {k : FuelKind} (entry : y.turn? f = some t) (fuel : t.request = .fuel k) : y.takeBus p f =
    y.seat p f (fun q => { q with state := .occupied, bus := some f, callTimer := none }) := by
  simp only [Yard.takeBus, entry, fuel]
  rfl

/-- A bus taken at a wash lane (R84). -/
theorem Yard.takeBus_wash {program passes : Nat} (entry : y.turn? f = some t) (wash : t.request = .wash program passes) :
    y.takeBus p f =
      (y.seat p f (fun q =>
        { q with
          state := .occupied, bus := some f, callTimer := none, program := some program, passesLeft := passes
          retries := 0 })).wantPoint p (.startPass program) := by
  simp only [Yard.takeBus, entry, wash]
  rfl

/-- A seated bus changes bus records, points and queues alone. -/
theorem Yard.seat_rest (g : Point → Point) (y : Yard) : y.seat p f g =
    { y with
      fleet := (y.seat p f g).fleet, points := (y.setPoint p g).points
      fuelPriority := (y.seat p f g).fuelPriority, fuelOrdinary := (y.seat p f g).fuelOrdinary
      washQueue := (y.seat p f g).washQueue } := by
  unfold Yard.seat Yard.busAtPoint
  split <;> rfl

theorem Yard.seat_point {g : Point → Point} (found : y.point? p = some q) (keeps : ∀ q, (g q).id = q.id) :
    (y.seat p f g).point? p = some (g q) := by
  rw [Yard.seat_rest]
  show (y.setPoint p g).point? p = _
  rw [Yard.point_setPoint _ _ _ keeps, if_pos rfl, found]
  rfl

theorem Yard.seat_turn (g : Point → Point) (entry : y.turn? f = some t) :
    (y.seat p f g).turn? f = some { t with status := .serving p } := by
  have set : ((y.setPoint p g).setTurn f (fun t => { t with status := .serving p })).turn? f =
      some { t with status := .serving p } := by
    rw [Yard.turn_setTurn _ _ _ (by intro; rfl), if_pos rfl, Yard.turn_setPoint, entry]
    rfl
  rw [← set]
  unfold Yard.seat Yard.busAtPoint
  split <;> rfl

/-- A CALLED or waiting bus is SERVING once it is seated (R49). -/
theorem Yard.seat_bus (g : Point → Point) (known : y.bus? f = some b) (called : b.wait = .called ∨ b.wait = .turn) :
    (y.seat p f g).bus? f = some { b with wait := .serving } := by
  have still : ((y.setPoint p g).setTurn f (fun t => { t with status := .serving p })).bus? f = some b := known
  rw [Yard.seat, Yard.busAtPoint_eq still, if_pos called, Yard.bus_setBus _ _ _ (by intro; rfl), if_pos rfl, still]
  rfl

/-- A CALLED bus taken where it stands (R64, R67, R84): its turn is SERVING, and no notice is posted. -/
theorem Yard.takeBus_called (found : y.point? p = some q) (known : y.bus? f = some b) (called : b.wait = .called)
    (entry : y.turn? f = some t) :
    let z := y.takeBus p f
    z.notices = y.notices ∧ (z.point? p).map Point.state = some .occupied ∧ (z.point? p).map Point.bus = some (some f) ∧
      (z.point? p).map Point.callTimer = some none ∧ (z.bus? f).map Bus.wait = some .serving ∧
      (z.turn? f).map PoolEntry.status = some (.serving p) := by
  intro z
  have seated {g : Point → Point} (keeps : ∀ q, (g q).id = q.id) :
      (y.seat p f g).notices = y.notices ∧ (y.seat p f g).point? p = some (g q) ∧
        (y.seat p f g).bus? f = some { b with wait := .serving } ∧
        (y.seat p f g).turn? f = some { t with status := .serving p } :=
    ⟨by rw [Yard.seat_rest], Yard.seat_point found keeps, Yard.seat_bus g known (.inl called), Yard.seat_turn g entry⟩
  cases request : t.request with
  | fuel k =>
    obtain ⟨notices, point, bus, turn⟩ :=
      seated (g := fun q => { q with state := .occupied, bus := some f, callTimer := none }) (by intro; rfl)
    rw [show z = _ from Yard.takeBus_fuel entry request, notices, point, bus, turn]
    exact ⟨rfl, rfl, rfl, rfl, rfl, rfl⟩
  | wash program passes =>
    obtain ⟨notices, point, bus, turn⟩ := seated (g := fun q =>
      { q with
        state := .occupied, bus := some f, callTimer := none, program := some program, passesLeft := passes
        retries := 0 }) (by intro; rfl)
    obtain ⟨deferred, wanted, _, rest⟩ := Yard.wantPoint_spec point (.startPass program)
    rw [show z = _ from Yard.takeBus_wash entry request, wanted, rest]
    exact ⟨notices, rfl, rfl, rfl, congrArg (Option.map _) bus, congrArg (Option.map _) turn⟩

/-- Settles O37: the scans by the entries they pass, R59's conditions, the call with a bus away from the point and at it. -/
theorem selectionScans : Obligations.SelectionScans := by
  refine ⟨?_, fun y p f => Yard.callable_iff, ?_⟩
  · intro s p high c e y
    have event {z : Yard} (becomes : y.selectionEvent e p = z) : exec c s = .next (s.withYard z) := by
      rw [← becomes]
      cases p <;> exact congrArg Host.Outcome.next (State.yardEvent_high high _)
    refine ⟨fun q found low => event (Yard.selectionEvent_idle fun r other => ?_),
      fun absent => event (Yard.selectionEvent_idle fun r other => ?_), ?_⟩
    · rw [found] at other
      cases other
      exact low
    · rw [absent] at other
      cases other
    · intro q found raised y0 tested skip passed first
      obtain rfl : q.id = p := Yard.point_id found
      have taken := Yard.selectionEvent_taken (e := e) found raised
      have callable : y0.callable q.id = y.callable q.id := funext (Yard.callable_unselected q.id)
      refine ⟨fun busy => event (taken.trans (if_neg busy)), fun free wash => ?_, fun free island => ?_⟩
      · have serves : (fun _ : PoolEntry => true) = fun t => q.id.isWash || q.serves t.request := by simp [wash]
        have scans {z : Yard} (scan : y0.selectWash e q = z) : exec c s = .next (s.withYard z) :=
          event (taken.trans ((if_pos free).trans ((if_pos wash).trans scan)))
        refine ⟨fun before t after ⟨queue, passes, tests, calls⟩ => scans ?_, fun passes => scans ?_⟩
        · refine Yard.selectWash_scan (called := some t.bus) ?_
          rw [serves, callable, show y0.washQueue = before ++ t :: after from queue]
          exact scanQueue_calls (serves := fun t => q.id.isWash || q.serves t.request) tests calls passes
        · refine Yard.selectWash_scan (called := none) ?_
          rw [serves, callable]
          exact scanQueue_none passes
      · have serves : (fun t : PoolEntry => q.serves t.request) = fun t => q.id.isWash || q.serves t.request := by simp [island]
        have scans {z : Yard} (scan : y0.selectIsland e q = z) : exec c s = .next (s.withYard z) :=
          event (taken.trans ((if_pos free).trans ((if_neg (by rw [island]; decide)).trans scan)))
        have scan {queue list : List PoolEntry} {called : Option Nat}
            (scan : scanQueue (fun t => q.id.isWash || q.serves t.request) (y.callable q.id) list = (queue, called)) :
            scanQueue (fun t => q.serves t.request) (y0.callable q.id) list = (queue, called) := by
          rw [serves, callable]
          exact scan
        refine ⟨fun before t after ⟨queue, passes, tests, calls⟩ => scans ?_, fun none =>
          ⟨fun before t after ⟨queue, passes, tests, calls⟩ => scans ?_, fun passes => scans ?_⟩⟩
        · refine Yard.selectIsland_priority (scan ?_)
          rw [show y0.fuelPriority = before ++ t :: after from queue]
          exact scanQueue_calls (serves := fun t => q.id.isWash || q.serves t.request) tests calls passes
        · refine Yard.selectIsland_ordinary (called := some t.bus) (scan (scanQueue_none none)) (scan ?_)
          rw [show y0.fuelOrdinary = before ++ t :: after from queue]
          exact scanQueue_calls (serves := fun t => q.id.isWash || q.serves t.request) tests calls passes
        · exact Yard.selectIsland_ordinary (called := .none) (scan (scanQueue_none none)) (scan (scanQueue_none passes))
  · intro e y p f code b q t known found entry waits free quiet z
    have call := Yard.callBus_eq (e := e) known found waits quiet code
    obtain rfl : q.id = p := Yard.point_id found
    have bus := Yard.called_bus (e := e) (q := q) code known
    have turn := Yard.called_turn (e := e) (q := q) (b := b) code entry
    have point := Yard.called_point (e := e) (b := b) (f := f) code found
    by_cases here : b.position = .atPoint q.id
    · have taken : z = (y.called e q b f code).takeBus q.id f := call.trans (if_pos here)
      obtain ⟨notices, served⟩ := Yard.takeBus_called point bus rfl turn
      rw [taken]
      exact ⟨notices.trans (Yard.called_notices code), fun away => absurd here away, fun _ => served⟩
    · have away : z = y.called e q b f code := call.trans (if_neg here)
      rw [away]
      refine ⟨Yard.called_notices code, fun _ => ⟨point, by rw [bus]; rfl, turn, Yard.called_command code,
        fun n l stands lane => Yard.called_release code stands lane⟩, fun there => absurd there here⟩

end Sys2Proof.Machine
end

section
/-!
PROOFS. The end of a command attempt (O50): the answer's window, the outcome handed to a lane or a point, the commands a point wants.
-/
namespace Sys2Proof.Machine

variable {e : Env} {y : Yard} {p : PointId} {q : Point}

/-! ### The end of a command's window -/

/-- The addresses and answers that a command allows (Table 8-2). -/
def LineCommand.fits (c : LineCommand) (address : Nat) (a : Answer) : Bool := a.toCommand && address == c.station

/-- What a window's outcome makes of the yard (R149): the health rules, then the command's outcome or its retry. -/
def Yard.commandHeard (e : Env) (g : InFlight) (y : Yard) : WindowOutcome → Yard
  | .valid address a => (y.stationValid e address).endCommand e g.command a.outcome
  | .silent | .garbled =>
    if g.retry then (y.stationFailure e g.command.station).endCommand e g.command .failed
    else { y.stationFailure e g.command.station with inFlight := some { command := g.command, retry := true } }

theorem State.commandAnswer_shut {s : State} (shut : s.windowOpen .command = false) (w : AnswerWindow) : s.commandAnswer w = s := by
  simp only [State.commandAnswer, shut]

/-- A command attempt's window ends with what its answer is classified as (R144, R149). -/
theorem State.commandAnswer_ends {s : State} {g : InFlight} {w : AnswerWindow} {o : WindowOutcome}
    (opened : s.windowOpen .command = true) (flight : s.yard.inFlight = some g) (outcome : classify g.command.fits w = o) :
    s.commandAnswer w =
      { s with line := { s.line with phase := .idleWait, ylde := false }, yard := s.yard.commandHeard s.env g o } := by
  have fits : classify (fun address a => a.toCommand && address == g.command.station) w = o := outcome
  simp only [State.commandAnswer, opened, flight, fits]
  cases o with
  | valid address a => rfl
  | silent => simp only [Yard.commandHeard]; split <;> rfl
  | garbled => simp only [Yard.commandHeard]; split <;> rfl

/-- An answer that fits a command is an ACCEPTED or a NOT_READY of a status, from its station (Tables 8-2, 11-9). -/
theorem LineCommand.fits_cases {c : LineCommand} {address kind : Nat} {payload : List Byte} {a : Answer}
    (read : readAnswer kind payload = some a) (fit : c.fits address a = true) :
    address = c.station ∧ (kind = 2 ∧ payload = [] ∨ kind = 3 ∧ payload.length = 1 ∧ 1 ≤ byteAt payload 0) := by
  obtain ⟨toCommand, station⟩ := Bool.and_eq_true_iff.1 fit
  refine ⟨beq_iff_eq.1 station, ?_⟩
  rcases readAnswer_cases read with ⟨-, r, -, rfl⟩ | ⟨accepted, empty, -⟩ | ⟨notReady, length, status, -⟩ | ⟨-, -, rfl⟩
  · cases toCommand
  · exact .inl ⟨accepted, empty⟩
  · exact .inr ⟨notReady, length, status⟩
  · cases toCommand

/-! ### Outcomes handed to their owners -/

/-- An outcome handed to a lane (R117): an ACCEPTED SIGN is recorded. -/
theorem Yard.endCommand_lane {c : LineCommand} {n : Nat} (owner : c.owner = .lane n) (o : CommandOutcome) :
    y.endCommand e c o =
      match c.order, o with
      | .sign content, .accepted => ({ y with inFlight := none } : Yard).setLane n (fun l => { l with lastSign := some content })
      | _, _ => { y with inFlight := none } := by
  simp only [Yard.endCommand, owner] <;> rfl

/-- A NOT_READY handed to a point (R72, R87): a fault with the status, then its deferred command. -/
theorem Yard.endCommand_notReady {c : LineCommand} (owner : c.owner = .point p) (status : Nat) :
    y.endCommand e c (.notReady status) = ({ y.pointFaulted e p status 2 with inFlight := none } : Yard).queueDeferred p := by
  simp only [Yard.endCommand, owner]

/-- Any other outcome handed to a point (R61, R81): its deferred command. -/
theorem Yard.endCommand_other {c : LineCommand} {o : CommandOutcome} (owner : c.owner = .point p)
    (other : o = .accepted ∨ o = .failed) : y.endCommand e c o = ({ y with inFlight := none } : Yard).queueDeferred p := by
  rcases other with rfl | rfl <;> simp only [Yard.endCommand, owner]

theorem Yard.queueDeferred_none (found : y.point? p = some q) (none : q.deferred = none) : y.queueDeferred p = y := by
  simp only [Yard.queueDeferred, found, none]

theorem Yard.queueDeferred_some {order : Order} (found : y.point? p = some q) (deferred : q.deferred = some order) :
    y.queueDeferred p =
      (y.setPoint p (fun q => { q with deferred := none })).queueCommand (.point p) q.station order := by
  simp only [Yard.queueDeferred, found, deferred]

/-! ### Commands wanted -/

/-- A point in DOWN wants no command (R61). -/
theorem Yard.wantPoint_down (found : y.point? p = some q) (down : q.state = .down) (order : Order) :
    y.wantPoint p order = y := by
  simp only [Yard.wantPoint, found, if_pos down]

/-- A command wanted while another is outstanding is deferred (R61, R81). -/
theorem Yard.wantPoint_defers (found : y.point? p = some q) (up : q.state ≠ .down) (outstanding : (y.outstanding? p).isSome = true)
    (order : Order) : y.wantPoint p order = y.setPoint p (fun q => { q with deferred := some order }) := by
  simp only [Yard.wantPoint, found, if_neg up, if_pos outstanding]

/-- A command wanted with none outstanding is queued (R61, R81). -/
theorem Yard.wantPoint_queues (found : y.point? p = some q) (up : q.state ≠ .down)
    (quiet : ¬ (y.outstanding? p).isSome = true) (order : Order) :
    y.wantPoint p order = y.queueCommand (.point p) q.station order := by
  simp only [Yard.wantPoint, found, if_neg up, if_neg quiet]

/-- Settles O50: the window by what its answer is classified as, an outcome by its owner, a wanted command by what is outstanding. -/
theorem commandsAnswered : Obligations.CommandsAnswered := by
  refine ⟨?_, ?_, ?_, ?_, ?_, fun s w shut => congrArg Host.Outcome.next (State.commandAnswer_shut (State.windowOpen_shut shut) w)⟩
  · intro s g high held window flight low top e c a answered ends failed
    have opened := State.windowOpen_open high held window
    have ended {w : AnswerWindow} {o : WindowOutcome} (outcome : classify c.fits w = o) :
        ends w (s.yard.commandHeard e g o) := congrArg Host.Outcome.next (State.commandAnswer_ends opened flight outcome)
    have station : (BitVec.ofNat 8 a : Byte).toNat = a := by
      rw [BitVec.toNat_ofNat]
      exact Nat.mod_eq_of_lt (Nat.lt_of_le_of_lt top (by decide))
    have valid {kind : Byte} {payload : List Byte} {b : Answer} (read : readAnswer kind.toNat payload = some b)
        (toCommand : b.toCommand = true) : classify c.fits (answered (u8 a ++ kind :: payload)) = .valid a b := by
      refine (classify_valid (address := BitVec.ofNat 8 a) read ?_ ?_ ?_).trans ?_ <;> rw [station]
      · exact low
      · exact top
      · simp [LineCommand.fits, toCommand, a]
    refine ⟨ended (o := .silent) rfl, fun chars => ended (o := .garbled) (classify_late _ chars),
      fun chars framing => ended (o := .garbled) (classify_framingError _ framing true),
      fun fields h l bad => ended (o := .garbled) (classify_badCheck _ bad true),
      fun bytes _ short => ended (o := .garbled) (classify_short _ short true),
      ended (valid (kind := 2#8) (b := .accepted) rfl rfl),
      fun status known => ended (valid (kind := 3#8) (readAnswer_notReady known) rfl),
      fun kind payload bad => ended (o := .garbled) (classify_misfit fun b read _ _ => ?_),
      fun address kind payload other => ended (o := .garbled) (classify_misfit fun b read _ _ => ?_)⟩
    · refine Bool.eq_false_of_not_eq_true fun fit => ?_
      obtain ⟨-, form⟩ := LineCommand.fits_cases read fit
      rcases bad with ⟨no2, no3⟩ | ⟨two, more⟩ | ⟨three, long | rfl⟩
      · omega
      · rcases form with ⟨-, empty⟩ | ⟨three, -⟩
        · exact more empty
        · omega
      · omega
      · simp [byteAt] at form
    · exact Bool.eq_false_of_not_eq_true fun fit => other (LineCommand.fits_cases read fit).1
  · intro e y n a ended
    refine ⟨fun content => Yard.endCommand_lane rfl .accepted, fun content o other => ?_,
      fun o => Yard.endCommand_lane rfl o⟩
    refine (Yard.endCommand_lane rfl o).trans ?_
    cases o with
    | accepted => exact absurd rfl other
    | notReady status => rfl
    | failed => rfl
  · intro e y p q c o found owner other
    rw [Yard.endCommand_other owner other]
    exact ⟨fun none => Yard.queueDeferred_none found none, fun order deferred => Yard.queueDeferred_some found deferred⟩
  · intro e y p c status owner ended q found
    rw [Yard.endCommand_notReady owner]
    exact ⟨fun none => Yard.queueDeferred_none found none, fun order deferred => Yard.queueDeferred_some found deferred⟩
  · intro y p q order found outstanding
    have outstands : (y.outstanding? p).isSome = true ↔ outstanding := Yard.outstanding_iff
    exact ⟨fun down => Yard.wantPoint_down found down order,
      fun up waits => Yard.wantPoint_defers found up (outstands.2 waits) order,
      fun up quiet => Yard.wantPoint_queues found up (fun waits => quiet (outstands.1 waits)) order⟩

end Sys2Proof.Machine
end

section
/-!
PROOFS. POINT_CLOSE and POINT_OPEN by the point's state (O35), and what the closing shares with other events: a point freed or taken
down, a call withdrawn, a turn returned in frost and out of it.
-/
namespace Sys2Proof.Machine

variable {e : Env} {y : Yard} {p : PointId} {q : Point} {f : Nat} {b : Bus} {t : PoolEntry}

/-! ### The point's station -/

theorem Yard.stationLost_iff : y.stationLost q = true ↔ (y.station? q.station).map Station.state = some .lost := by
  unfold Yard.stationLost
  cases y.station? q.station <;> simp

/-! ### A turn returned -/

/-- A CALLED bus's turn returned, but for a wash turn in frost (R58). -/
theorem Yard.returnTurn_called (found : y.point? p = some q) (known : y.bus? f = some b) (entry : y.turn? f = some t)
    (called : b.wait = .called ∨ b.wait = .serving) (thawed : (t.request.isWash && y.frost) = false) : y.returnTurn e p f =
      ((y.setTurn f (fun t => { t with status := .waiting })).setWait f .turn).raise :=
  (Yard.returnTurn_waits entry found known thawed).trans (congrArg Yard.raise (if_pos called))

/-- A wash step's end before its signal (R85, steps 1 to 3). -/
def Yard.washEnded (e : Env) (f residue passes : Nat) (place : Option Place) (y : Yard) : Yard :=
  ((y.setBus f (fun b => { b with residue, washWanted := if residue = 0 then false else b.washWanted })).freeTurn f).post e
    .turnDone f place residue (passes - residue)

theorem Yard.endWashStep_eq (entry : y.turn? f = some t) (residue : Nat) (place : Option Place) :
    y.endWashStep e f residue place = y.washEnded e f residue t.request.passes place := by
  simp only [Yard.endWashStep, entry]
  rfl

theorem Yard.washEnded_bus (known : y.bus? f = some b) (residue passes : Nat) (place : Option Place) :
    (y.washEnded e f residue passes place).bus? f =
      some { b with residue, washWanted := if residue = 0 then false else b.washWanted } := by
  rw [Yard.washEnded, Yard.bus_post, Yard.bus_freeTurn, Yard.bus_setBus _ _ _ (by intro; rfl), if_pos rfl, known]
  rfl

/-- A wash step ended by frost (R85): a plan that waits for its turn goes on past the WASH step. -/
theorem Yard.frostWash_eq (entry : y.turn? f = some t) (known : y.bus? f = some b) (residue : Nat) (place : Option Place) :
    y.frostWash e f residue place =
      if b.wait = .turn ∨ b.wait = .called ∨ b.wait = .serving then
        ((y.washEnded e f residue t.request.passes place).setBus f (fun b => { b with repeatCount := none })).advanceSteps e f 16
          none (b.cursor.getD 0 + 1)
      else y.washEnded e f residue t.request.passes place := by
  rw [Yard.frostWash, Yard.endWashStep_eq entry, Yard.frostEnd_eq, Yard.washEnded_bus known]

/-! ### Records through a claim released and a selection event -/

theorem Yard.raise_point (found : y.point? p = some q) (busy : q.state ≠ .free) : y.raise.point? p = some q := by
  rw [Yard.point_raise, found, Option.map_some, if_neg busy]

theorem Yard.releaseClaim_point (found : y.point? p = some q) (busy : q.state ≠ .free) (f : Nat) (reason : ReleaseReason) :
    (y.releaseClaim f reason).point? p = some q := by
  obtain same | ⟨n, z, only, released⟩ := Yard.releaseClaim_cases f reason y
  · rw [same, found]
  · rw [released]
    refine Yard.raise_point ?_ busy
    rw [only.rest]
    exact found

/-- The lane that holds a claim, the claim released. -/
theorem Yard.releaseClaim_held {l : Lane} {reason : ReleaseReason}
    (held : y.lanes.find? (fun l => l.release == some (f, reason)) = some l) (lane : y.lane? l.number = some l) :
    ∃ pending, (y.releaseClaim f reason).lane? l.number =
      some { l with release := none, sign := ({ l with release := none } : Lane).content, signPending := pending } := by
  simp only [Yard.releaseClaim, held]
  exact Yard.clearRelease_lane lane

/-- Every lane but the one that holds a claim stands as the claim is released. -/
theorem Yard.releaseClaim_lane {reason : ReleaseReason} {k : Nat}
    (other : (y.lanes.find? (fun l => l.release == some (f, reason))).map Lane.number ≠ some k) :
    (y.releaseClaim f reason).lane? k = y.lane? k := by
  unfold Yard.releaseClaim
  split
  · next l held =>
    obtain ⟨z, only, cleared⟩ := Yard.clearRelease_rest l.number y
    rw [cleared, Yard.lane_raise]
    exact only.others k (by rintro rfl; exact other (by rw [held]; rfl))
  · rfl

theorem Yard.releaseClaim_outstanding (f : Nat) (reason : ReleaseReason) (p : PointId) (y : Yard) :
    (y.releaseClaim f reason).outstanding? p = y.outstanding? p := by
  obtain same | ⟨n, z, only, released⟩ := Yard.releaseClaim_cases f reason y
  · rw [same]
  · rw [released]
    show z.outstanding? p = _
    unfold Yard.outstanding? Yard.onLine?
    rw [only.unsent (.point p) nofun, only.rest]

/-! ### A call closed -/

/-- A call undone at a point that is closed (R74): call timer stopped, claim released, the called bus's turn returned. -/
def Yard.callReturned (p : PointId) (f : Nat) (y : Yard) : Yard :=
  ((((y.setPoint p (fun q => { q with callTimer := none })).releaseClaim f .call).setTurn f
    (fun t => { t with status := .waiting })).setWait f .turn).raise

/-- POINT_CLOSE at a CALLING point (R74): the call undone, CLEAR_CALL wanted, the point CLOSED. -/
theorem Yard.hostClose_calling (found : y.point? p = some q) (calling : q.state = .calling) (named : q.bus = some f)
    (known : y.bus? f = some b) (called : b.wait = .called) (entry : y.turn? f = some t)
    (thawed : (t.request.isWash && y.frost) = false) :
    y.hostClose e q = ((y.callReturned p f).wantPoint p .clearCall).closePoint p := by
  obtain rfl : q.id = p := Yard.point_id found
  have point : ((y.setPoint q.id (fun q => { q with callTimer := none })).releaseClaim f .call).point? q.id =
      some { q with callTimer := none } := by
    refine Yard.releaseClaim_point ?_ (by rw [calling]; decide) f .call
    rw [Yard.point_setPoint _ _ _ (by intro; rfl), if_pos rfl, found]
    rfl
  have bus : ((y.setPoint q.id (fun q => { q with callTimer := none })).releaseClaim f .call).bus? f = some b :=
    (Yard.releaseClaim_bus f f .call _).trans known
  have turn : ((y.setPoint q.id (fun q => { q with callTimer := none })).releaseClaim f .call).turn? f = some t :=
    (Yard.releaseClaim_turn f .call f _).trans entry
  have frost : ((y.setPoint q.id (fun q => { q with callTimer := none })).releaseClaim f .call).frost = y.frost := by
    rw [Yard.releaseClaim_rest]
    rfl
  simp only [Yard.hostClose, calling, named]
  rw [Yard.returnTurn_called point bus turn (.inl called) (by rw [frost]; exact thawed)]
  rfl

section

variable (p f y)

theorem Yard.callReturned_rest : y.callReturned p f =
    { y with
      fleet := (y.callReturned p f).fleet, fuelPriority := (y.callReturned p f).fuelPriority
      fuelOrdinary := (y.callReturned p f).fuelOrdinary, washQueue := (y.callReturned p f).washQueue
      points := (y.callReturned p f).points, lanes := (y.callReturned p f).lanes
      cmdQueue := (y.callReturned p f).cmdQueue } := by
  unfold Yard.callReturned
  rw [Yard.releaseClaim_rest]
  rfl

theorem Yard.callReturned_others : y.OthersStand p (y.callReturned p f) := by
  have stopped : y.OthersStand p (y.setPoint p (fun q => { q with callTimer := none })) := .setPoint (by intro; rfl) y
  refine (stopped.trans fun r _ => .releaseClaim r f .call _).trans (.trans (.same rfl) (.raise p _))

theorem Yard.callReturned_turn (g : Nat) : (y.callReturned p f).turn? g =
    if g = f then (y.turn? g).map (fun t => { t with status := .waiting }) else y.turn? g := by
  rw [Yard.callReturned, Yard.turn_raise, Yard.turn_setWait, Yard.turn_setTurn _ _ _ (by intro; rfl), Yard.releaseClaim_turn]
  rfl

theorem Yard.callReturned_bus (g : Nat) : (y.callReturned p f).bus? g =
    if g = f then (y.bus? g).map (fun b => { b with wait := .turn }) else y.bus? g := by
  rw [Yard.callReturned, Yard.bus_raise, Yard.bus_setWait, Yard.bus_setTurn, Yard.releaseClaim_bus]
  rfl

end

theorem Yard.callReturned_point (found : y.point? p = some q) (calling : q.state = .calling) :
    (y.callReturned p f).point? p = some { q with callTimer := none } := by
  have busy : ({ q with callTimer := none } : Point).state ≠ .free := by simp [calling]
  refine Yard.raise_point ?_ busy
  refine Yard.releaseClaim_point (y := y.setPoint p (fun q => { q with callTimer := none })) ?_ busy f .call
  rw [Yard.point_setPoint _ _ _ (by intro; rfl), if_pos rfl, found]
  rfl

theorem Yard.callReturned_outstanding : (y.callReturned p f).outstanding? p = y.outstanding? p :=
  Yard.releaseClaim_outstanding f .call p (y.setPoint p (fun q => { q with callTimer := none }))

/-! ### A point closed and opened -/

/-- A vacated record closed by the host (R74). -/
theorem Yard.closePoint_found (found : y.point? p = some q) : (y.closePoint p).point? p = some q.closedByHost :=
  Yard.vacatePoint_found found (by intro; rfl) nofun

theorem Yard.freePoint_found (found : y.point? p = some q) : (y.freePoint p).point? p = some (q.freed y.frost) :=
  Yard.vacatePoint_found found (Point.freed_id _) (Point.freed_selected _ q)

/-- The points alone changed, and of those other than `p` at most the selection flag. -/
def Yard.PointsOnly (p : PointId) (y z : Yard) : Prop := z = { y with points := z.points } ∧ y.OthersStand p z

theorem Yard.PointsOnly.vacatePoint {g : Point → Point} (keeps : ∀ q, (g q).id = q.id) (y : Yard) :
    y.PointsOnly p (y.vacatePoint p g) := ⟨Yard.vacatePoint_rest g y, .vacatePoint keeps y⟩

/-- POINT_CLOSE of a point at work, or FROZEN: it is to be closed later (R74, R93). -/
theorem Yard.hostClose_later (found : y.point? p = some q)
    (work : q.state ∈ [PointState.occupied, .serving, .recovering, .clearing, .frozen]) :
    y.hostClose e q = y.setPoint p (fun q => { q with closePending := true }) := by
  obtain rfl : q.id = p := Yard.point_id found
  unfold Yard.hostClose
  cases state : q.state
  case occupied | serving | recovering | clearing | frozen => rfl
  all_goals simp [state] at work

theorem Yard.hostClose_closed (closed : q.state = .closed) : y.hostClose e q = y := by
  simp only [Yard.hostClose, closed]

/-- POINT_CLOSE of a FREE point, and of one that is DOWN (R74). -/
theorem Yard.hostClose_closes (found : y.point? p = some q) (idle : q.state = .free ∨ q.state = .down) :
    y.hostClose e q = y.closePoint p := by
  obtain rfl : q.id = p := Yard.point_id found
  rcases idle with state | state <;> simp only [Yard.hostClose, state]

/-- POINT_OPEN of a CLOSED point (R75). -/
theorem Yard.hostOpen_closed (found : y.point? p = some q) (closed : q.state = .closed) : y.hostOpen e q =
    if y.stationLost q then some (y.downPoint e p .station)
    else some ((y.freePoint p).post e .pointUp 0 (some (.point p)) 6 0) := by
  obtain rfl : q.id = p := Yard.point_id found
  simp only [Yard.hostOpen, closed]
  rfl

/-- POINT_OPEN of a point that is DOWN (R75). -/
theorem Yard.hostOpen_down (found : y.point? p = some q) (down : q.state = .down) : y.hostOpen e q =
    if y.stationLost q then none
    else some ((((y.setPoint p (fun q => { q with closePending := false, faults := 0 })).freePoint p).wantPoint p
      .clearCall).post e .pointUp 0 (some (.point p)) 7 0) := by
  obtain rfl : q.id = p := Yard.point_id found
  simp only [Yard.hostOpen, down]
  rfl

/-- POINT_OPEN of a point that is to be closed later, and of one that is open (R75, R93). -/
theorem Yard.hostOpen_open (found : y.point? p = some q) (closed : q.state ≠ .closed) (down : q.state ≠ .down) :
    y.hostOpen e q = if q.closePending then some (y.setPoint p (fun q => { q with closePending := false })) else none := by
  obtain rfl : q.id = p := Yard.point_id found
  unfold Yard.hostOpen
  cases state : q.state
  case closed => exact absurd state closed
  case down => exact absurd state down
  all_goals rfl

section

variable {body : List Byte} {s : State}

theorem closeNamed_none (none : pointOf (byteAt body 2) (byteAt body 3) = none) :
    closeNamed body s = (s, .refuse .badValue) := by
  simp only [closeNamed, none]
  rfl

theorem closeNamed_unknown (names : pointOf (byteAt body 2) (byteAt body 3) = some p) (unknown : s.yard.point? p = none) :
    closeNamed body s = (s, .refuse .notFound) := by
  simp only [closeNamed, names, unknown]
  rfl

theorem closeNamed_found (names : pointOf (byteAt body 2) (byteAt body 3) = some p) (found : s.yard.point? p = some q) :
    closeNamed body s = (s.withYard (s.yard.hostClose s.env q), .ok []) := by
  simp only [closeNamed, names, found]
  rfl

theorem openNamed_none (none : pointOf (byteAt body 2) (byteAt body 3) = none) :
    openNamed body s = (s, .refuse .badValue) := by
  simp only [openNamed, none]
  rfl

theorem openNamed_unknown (names : pointOf (byteAt body 2) (byteAt body 3) = some p) (unknown : s.yard.point? p = none) :
    openNamed body s = (s, .refuse .notFound) := by
  simp only [openNamed, names, unknown]
  rfl

theorem openNamed_opens {z : Yard} (names : pointOf (byteAt body 2) (byteAt body 3) = some p) (found : s.yard.point? p = some q)
    (opens : s.yard.hostOpen s.env q = some z) : openNamed body s = (s.withYard z, .ok []) := by
  simp only [openNamed, names, found, opens]
  rfl

theorem openNamed_refused (names : pointOf (byteAt body 2) (byteAt body 3) = some p) (found : s.yard.point? p = some q)
    (refused : s.yard.hostOpen s.env q = none) : openNamed body s = (s, .refuse .wrongState) := by
  simp only [openNamed, names, found, refused]
  rfl

end

/-- Settles O35: the two requests by the point's state, then the shared steps as exact yards. -/
theorem pointsClosedAndOpened : Obligations.PointsClosedAndOpened := by
  unfold Obligations.PointsClosedAndOpened
  intro vacant closed freed
  refine ⟨?_, ?_⟩
  · intro s tag kind number running e y named pointsOnly
    have mode := inRunning_eq running
    refine ⟨?_, ?_⟩
    · intro body taken
      have answered {t : State} {r : Reply} (act : closeNamed body s = (t, r)) :
          exec .pointClose s = .next (t.reply body r.result r.data) := exec_acts rfl taken rfl rfl mode act
      refine ⟨fun none => answered (closeNamed_none (body := body) none),
        fun p names unknown => answered (closeNamed_unknown (body := body) names unknown), fun p q names found => ?_⟩
      have closes {z : Yard} (becomes : y.hostClose e q = z) : Taken .pointClose s (s.withYard z) body [] := by
        rw [← becomes]
        exact answered (closeNamed_found (body := body) names found)
      refine ⟨fun work => closes (Yard.hostClose_later found work), fun out => closes (Yard.hostClose_closed out),
        fun idle => ⟨_, closes (Yard.hostClose_closes found idle), Yard.closePoint_found found,
          Yard.PointsOnly.vacatePoint (by intro; rfl) y⟩,
        fun f t b calling bus entry known called thawed => ?_⟩
      have point := Yard.callReturned_point (f := f) found calling
      obtain ⟨deferred, wanted, others, rest⟩ := Yard.wantPoint_spec point .clearCall
      let cleared := (y.callReturned p f).wantPoint p .clearCall
      have shut := Yard.closePoint_found wanted
      have close : cleared.closePoint p = { cleared with points := (cleared.closePoint p).points } :=
        Yard.vacatePoint_rest _ cleared
      have lanes (k : Nat) : (cleared.closePoint p).lane? k =
          ((y.setPoint p (fun q => { q with callTimer := none })).releaseClaim f .call).lane? k := by
        rw [close, show cleared = _ from rest]
        rfl
      have turns (g : Nat) : (cleared.closePoint p).turn? g = (y.callReturned p f).turn? g := by
        rw [close, show cleared = _ from rest]
        rfl
      have buses (g : Nat) : (cleared.closePoint p).bus? g = (y.callReturned p f).bus? g := by
        rw [close, show cleared = _ from rest]
        rfl
      refine ⟨cleared.closePoint p, closes (Yard.hostClose_calling found calling bus known called entry thawed),
        shut, ?_, ?_, fun l held lane => ?_, fun quiet => ?_, ?_, fun g other => ⟨?_, ?_⟩,
        fun k other => ?_, ?_⟩
      · rw [turns, Yard.callReturned_turn, if_pos rfl, entry]
        rfl
      · rw [buses, Yard.callReturned_bus, if_pos rfl, known]
        rfl
      · obtain ⟨pending, released⟩ :=
          Yard.releaseClaim_held (y := y.setPoint p (fun q => { q with callTimer := none })) held lane
        exact ⟨pending, (lanes l.number).trans released⟩
      · rw [close]
        show _ ∈ cleared.cmdQueue
        rw [show cleared = _ from Yard.wantPoint_queues point (by simp [calling])
          (by rw [Yard.callReturned_outstanding, quiet]; decide) .clearCall]
        exact List.mem_append_right _ List.mem_cons_self
      · exact ((Yard.callReturned_others y p f).trans (.wantPoint .clearCall _)).trans (.vacatePoint (by intro; rfl) _)
      · rw [buses, Yard.callReturned_bus, if_neg other]
      · rw [turns, Yard.callReturned_turn, if_neg other]
      · rw [lanes]
        exact Yard.releaseClaim_lane (y := y.setPoint p (fun q => { q with callTimer := none })) other
      · rw [close, show cleared = _ from rest, Yard.callReturned_rest]
    · intro body taken
      have answered {t : State} {r : Reply} (act : openNamed body s = (t, r)) :
          exec .pointOpen s = .next (t.reply body r.result r.data) := exec_acts rfl taken rfl rfl mode act
      refine ⟨fun none => answered (openNamed_none (body := body) none),
        fun p names unknown => answered (openNamed_unknown (body := body) names unknown), ?_⟩
      intro p q names found lost
      have opens {z : Yard} (becomes : y.hostOpen e q = some z) : Taken .pointOpen s (s.withYard z) body [] :=
        answered (openNamed_opens (body := body) names found becomes)
      have refuses (refused : y.hostOpen e q = none) : Refused .pointOpen s body .wrongState :=
        answered (openNamed_refused (body := body) names found refused)
      have station : y.stationLost q = true ↔ lost := Yard.stationLost_iff
      refine ⟨fun out heard => ?_, fun out silent => ?_, fun down heard => ?_, fun down silent => ?_, fun out down => ?_⟩
      · refine ⟨y.freePoint p, opens ((Yard.hostOpen_closed found out).trans (if_neg fun l => heard (station.1 l))),
          Yard.freePoint_found found, Yard.PointsOnly.vacatePoint (Point.freed_id _) y⟩
      · refine ⟨y.vacatePoint p (fun q => { vacant .down (some .station) q with deferred := none }),
          opens ((Yard.hostOpen_closed found out).trans (if_pos (station.2 silent))),
          Yard.vacatePoint_found found (by intro; rfl) nofun, Yard.PointsOnly.vacatePoint (by intro; rfl) y⟩
      · let reset := y.setPoint p (fun q => { q with closePending := false, faults := 0 })
        have point : reset.point? p = some { q with closePending := false, faults := 0 } := by
          rw [Yard.point_setPoint _ _ _ (by intro; rfl), if_pos rfl, found]
          rfl
        refine ⟨reset.freePoint p, opens ((Yard.hostOpen_down found down).trans (if_neg fun l => heard (station.1 l))),
          Yard.freePoint_found point, ?_, ?_⟩
        · rw [Yard.freePoint, Yard.vacatePoint_rest]
          rfl
        · exact Yard.OthersStand.trans (.setPoint (by intro; rfl) y) (.vacatePoint (Point.freed_id _) reset)
      · exact refuses ((Yard.hostOpen_down found down).trans (if_pos (station.2 silent)))
      · have later := Yard.hostOpen_open (e := e) found out down
        refine ⟨fun pending => opens (later.trans (if_pos pending)), fun kept => refuses (later.trans (if_neg ?_))⟩
        rw [kept]
        decide
  · intro e y p q found becomes
    have vacates (g : Point → Point) : y.vacatePoint p g = becomes g y := Yard.vacatePoint_eq found g
    refine ⟨vacates _, fun cause => ?_, rfl, ?_⟩
    · rw [← vacates]
      cases cause <;> rfl
    intro f t b entry known returned residue ended
    refine ⟨fun thawed => ?_, fun frozen => ?_⟩
    · have waits := Yard.returnTurn_waits (e := e) entry found known thawed
      refine ⟨fun called => waits.trans (congrArg Yard.raise (if_pos called)),
        fun uncalled unserved => waits.trans (congrArg Yard.raise (if_neg ?_))⟩
      rintro (called | serving)
      · exact uncalled called
      · exact unserved serving
    · have froze := (Yard.returnTurn_frost (e := e) entry found frozen).trans (Yard.frostWash_eq entry known _ _)
      refine ⟨fun member => froze.trans (if_pos (by simpa using member)),
        fun missing => froze.trans (if_neg (by simpa using missing))⟩

end Sys2Proof.Machine
end

section
/-!
PROOFS. LINE_RESTART (O53): the line cut and everything discarded, then the lanes and the points told one after the other. The lanes
are followed by what a SIGN wanted and a berth granted keep, the points by the command each of them queues.
-/
namespace Sys2Proof.Machine

variable {e : Env} {x y z : Yard} {p : PointId} {q : Point} {n : Nat}

/-! ### What the lanes' steps keep -/

/-- A lane's number and whether it is DARK. -/
def Lane.light (l : Lane) : Nat × Bool := (l.number, l.dark)

/-- A SIGN of the lane waits in the line command queue. -/
def Yard.SignQueued (n : Nat) (y : Yard) : Prop :=
  ∃ c ∈ y.cmdQueue, c.owner = .lane n ∧ ∃ content, c.order = .sign content

/-- Only SIGNs of lanes wait in the line command queue. -/
def Yard.OnlySigns (y : Yard) : Prop := ∀ c ∈ y.cmdQueue, ∃ n content, c.owner = .lane n ∧ c.order = .sign content

/-- From `y` to `z` no lane's DARK changed, no SIGN was lost, and no other command joined the queue. -/
structure Yard.Signs (y z : Yard) : Prop where
  light : z.lanes.map Lane.light = y.lanes.map Lane.light
  queued : ∀ n, y.SignQueued n → z.SignQueued n
  only : y.OnlySigns → z.OnlySigns

namespace Yard.Signs

theorem same (lanes : z.lanes = y.lanes) (queue : z.cmdQueue = y.cmdQueue) : y.Signs z :=
  ⟨by rw [lanes], fun n held => by rwa [Yard.SignQueued, queue], fun only => by rwa [Yard.OnlySigns, queue]⟩

theorem refl (y : Yard) : y.Signs y := same rfl rfl

theorem trans (h : x.Signs y) (k : y.Signs z) : x.Signs z :=
  ⟨k.light.trans h.light, fun n held => k.queued n (h.queued n held), fun only => k.only (h.only only)⟩

theorem foldl {α : Type} {op : Yard → α → Yard} (h : ∀ (y : Yard) a, y.Signs (op y a)) :
    ∀ (l : List α) (y : Yard), y.Signs (l.foldl op y)
  | [], y => refl y
  | a :: l, y => (h y a).trans (foldl h l (op y a))

theorem setLane {g : Lane → Lane} (keeps : ∀ l, (g l).light = l.light) (y : Yard) : y.Signs (y.setLane n g) :=
  ⟨map_update_keys Lane.light _ g keeps _, fun _ held => held, fun only => only⟩

theorem queueSign (station : Nat) (content : SignContent) (y : Yard) :
    y.Signs (y.queueCommand (.lane n) station (.sign content)) := by
  refine ⟨rfl, fun m ⟨c, member, owned⟩ => ⟨c, List.mem_append_left _ member, owned⟩, fun only c member => ?_⟩
  rcases List.mem_append.1 member with old | new
  · exact only c old
  · obtain rfl := List.mem_singleton.1 new
    exact ⟨n, content, rfl, rfl⟩

/-- An unsent SIGN replaced by one of the present content (R117). -/
theorem replaceSign (content : SignContent) (y : Yard) : y.Signs
    { y with cmdQueue := y.cmdQueue.map (fun c => if c.owner = .lane n then { c with order := .sign content } else c) } := by
  refine ⟨rfl, fun m ⟨c, member, owner, shown, sign⟩ => ⟨_, List.mem_map_of_mem member, ?_⟩, fun only c member => ?_⟩
  · split
    · exact ⟨owner, content, rfl⟩
    · exact ⟨owner, shown, sign⟩
  · obtain ⟨old, within, rfl⟩ := List.mem_map.1 member
    obtain ⟨m, shown, owner, sign⟩ := only old within
    split
    · exact ⟨m, content, owner, rfl⟩
    · exact ⟨m, shown, owner, sign⟩

theorem wantSign (n : Nat) (y : Yard) : y.Signs (y.wantSign n) := by
  unfold Yard.wantSign
  split
  · exact refl y
  · split
    · exact replaceSign _ y
    · exact setLane (by intro; rfl) y
    · exact queueSign _ _ y

theorem updateSign (n : Nat) (y : Yard) : y.Signs (y.updateSign n) := by
  unfold Yard.updateSign
  split
  · exact refl y
  · split
    · exact refl y
    · exact (setLane (by intro; rfl) y).trans (wantSign n _)

theorem setWait (f : Nat) (w : PlanWait) (y : Yard) : y.Signs (y.setWait f w) := same rfl rfl

theorem post (kind : NoticeKind) (f : Nat) (place : Option Place) (code quantity : Nat) (y : Yard) :
    y.Signs (y.post e kind f place code quantity) := same rfl rfl

theorem reserve (b : Bus) (kind : ReservationKind) (wait : PlanWait) (lapses code quantity : Nat) (y : Yard) :
    y.Signs (y.reserve e b n kind wait lapses code quantity) :=
  (((setLane (by intro; rfl) y).trans (setWait _ _ _)).trans (updateSign n _)).trans (post _ _ _ _ _ _)

theorem retryWait (e : Env) (y : Yard) (w : BerthWait) : y.Signs (y.retryWait e w) := by
  unfold Yard.retryWait
  split
  · exact refl y
  · split
    · exact (same rfl rfl : y.Signs (y.leaveWaits w.bus)).trans (reserve _ _ _ _ _ _ _)
    · exact refl y

theorem rerunWaits (e : Env) (y : Yard) : y.Signs (y.rerunWaits e) := foldl (retryWait e) _ y

end Yard.Signs

/-- Where only SIGNs wait, a lane that wants one has one. -/
theorem Yard.wantSign_queues {l : Lane} (found : y.lane? n = some l) (only : y.OnlySigns) : (y.wantSign n).SignQueued n := by
  cases unsent : y.unsent? (.lane n) with
  | none =>
    rw [Yard.wantSign_queued found unsent]
    exact ⟨_, List.mem_append_right _ List.mem_cons_self, rfl, l.sign, rfl⟩
  | some c =>
    have member : c ∈ y.cmdQueue := List.mem_of_find?_eq_some unsent
    have owner : c.owner = .lane n := by simpa using List.find?_some unsent
    obtain ⟨_, content, _, sign⟩ := only c member
    exact (Yard.Signs.wantSign n y).queued n ⟨c, member, owner, content, sign⟩

/-! ### A lane told of the restart -/

/-- The lane, where the layout has it, is not DARK. -/
def Yard.Lit (n : Nat) (y : Yard) : Prop := ∀ l, y.lane? n = some l → l.dark = false

theorem Yard.light_of_lane (n : Nat) (y : Yard) :
    (y.lane? n).map Lane.light = (y.lanes.map Lane.light).find? (fun v => v.1 == n) := by
  rw [List.find?_map]
  rfl

theorem Yard.Lit.kept (same : z.lanes.map Lane.light = y.lanes.map Lane.light) (lit : y.Lit n) : z.Lit n := by
  intro l found
  have view : (y.lane? n).map Lane.light = some l.light := by
    rw [Yard.light_of_lane, ← same, ← Yard.light_of_lane, found]
    rfl
  obtain ⟨m, before, lights⟩ := Option.map_eq_some_iff.1 view
  exact (congrArg Prod.snd lights).symm.trans (lit m before)

/-- What a lane told of a restart leaves (R116): berths are granted, its DARK is cleared, every other lane's stands, a SIGN of it
waits. -/
structure Yard.LaneTold (n : Nat) (y z : Yard) : Prop where
  numbers : z.lanes.map Lane.number = y.lanes.map Lane.number
  berths : ∃ w, y.Berths [.berthAssigned] w ∧ (z = w ∨ z = w.raise)
  lit : z.Lit n
  others : ∀ m, y.Lit m → z.Lit m
  queued : ∀ m, y.SignQueued m → z.SignQueued m
  only : y.OnlySigns → z.OnlySigns
  sign : y.OnlySigns → n ∈ y.lanes.map Lane.number → z.SignQueued n

theorem Yard.lane_of_number (listed : n ∈ y.lanes.map Lane.number) : ∃ l, y.lane? n = some l := by
  obtain ⟨l, member, number⟩ := List.mem_map.1 listed
  refine Option.isSome_iff_exists.1 (List.find?_isSome.2 ⟨l, member, ?_⟩)
  simpa using number

theorem Yard.Signs.numbers (h : y.Signs z) : z.lanes.map Lane.number = y.lanes.map Lane.number := by
  have first := congrArg (List.map Prod.fst) h.light
  rw [List.map_map, List.map_map] at first
  exact first

/-- A lane that is DARK, lit again (R116). -/
theorem Yard.laneTold_dark {l : Lane} (found : y.lane? n = some l) (dark : l.dark = true) : y.LaneTold n (y.laneAlive e n) := by
  let lit := y.setLane n (fun l => { l with dark := false })
  have alive : y.laneAlive e n = ((lit.wantSign n).rerunWaits e).raise := by simp only [Yard.laneAlive, found, if_pos dark]; rfl
  have steps : lit.Signs (((lit.wantSign n).rerunWaits e).raise) :=
    ((Yard.Signs.wantSign n lit).trans (.rerunWaits e _)).trans (.same rfl rfl)
  have lane (m : Nat) : lit.lane? m = if m = n then (y.lane? m).map (fun l => { l with dark := false }) else y.lane? m :=
    Yard.lane_setLane _ _ _ (by intro; rfl) m
  have here : lit.lane? n = some { l with dark := false } := by rw [lane, if_pos rfl, found]; rfl
  rw [alive]
  refine ⟨steps.numbers.trans (map_update_keys Lane.number _ _ (by intro; rfl) _), ⟨(lit.wantSign n).rerunWaits e, ?_, .inr rfl⟩,
    Yard.Lit.kept steps.light fun k at_ => ?_, fun m before => Yard.Lit.kept steps.light fun k at_ => ?_,
    fun m held => steps.queued m held, fun only => steps.only only, fun only _ => ?_⟩
  · exact ((Yard.Berths.setLane _ n _ y).trans (.wantSign _ n lit)).trans (.rerunWaits (by simp) e _)
  · rw [here] at at_
    cases at_
    rfl
  · rw [lane] at at_
    split at at_
    · obtain ⟨_, _, rfl⟩ := Option.map_eq_some_iff.1 at_
      rfl
    · exact before k at_
  · exact (((Yard.Signs.rerunWaits e _).trans (.same rfl rfl)).queued n (Yard.wantSign_queues here only) :)

/-- A lane that is not DARK wants its SIGN alone (R116). -/
theorem Yard.laneTold_lit {l : Lane} (found : y.lane? n = some l) (lit : l.dark = false) : y.LaneTold n (y.wantSign n) := by
  have steps := Yard.Signs.wantSign n y
  refine ⟨steps.numbers, ⟨_, .wantSign _ n y, .inl rfl⟩, Yard.Lit.kept steps.light fun k at_ => ?_,
    fun m before => Yard.Lit.kept steps.light before, steps.queued, steps.only, fun only _ => Yard.wantSign_queues found only⟩
  rw [found] at at_
  cases at_
  exact lit

theorem Yard.laneRestarted_told (e : Env) (n : Nat) (y : Yard) : y.LaneTold n (y.laneRestarted e n) := by
  unfold Yard.laneRestarted
  cases found : y.lane? n with
  | none =>
    refine ⟨rfl, ⟨y, .refl _ y, .inl rfl⟩, fun l at_ => ?_, fun _ h => h, fun _ h => h, fun h => h, fun _ listed => ?_⟩
    · rw [found] at at_
      cases at_
    · obtain ⟨l, other⟩ := Yard.lane_of_number listed
      rw [found] at other
      cases other
  | some l =>
    dsimp only
    cases dark : l.dark
    · exact Yard.laneTold_lit found dark
    · exact Yard.laneTold_dark found dark

/-! ### All the lanes told -/

/-- What neither the lanes nor the points told of a restart change. -/
structure Yard.LineFrame (y z : Yard) : Prop where
  inFlight : z.inFlight = y.inFlight
  stations : z.stations = y.stations
  departures : z.departures = y.departures
  pullout : z.pullout = y.pullout
  frost : z.frost = y.frost
  fuelPriority : z.fuelPriority = y.fuelPriority
  fuelOrdinary : z.fuelOrdinary = y.fuelOrdinary
  washQueue : z.washQueue = y.washQueue
  silent : SilentOn [.askResult, .lineRestarted] y z

theorem Yard.LineFrame.trans (h : x.LineFrame y) (k : y.LineFrame z) : x.LineFrame z :=
  ⟨k.inFlight.trans h.inFlight, k.stations.trans h.stations, k.departures.trans h.departures, k.pullout.trans h.pullout,
    k.frost.trans h.frost, k.fuelPriority.trans h.fuelPriority, k.fuelOrdinary.trans h.fuelOrdinary,
    k.washQueue.trans h.washQueue, fun kind member => (k.silent kind member).trans (h.silent kind member)⟩

theorem Yard.LineFrame.berths (h : y.Berths [.berthAssigned] z) : y.LineFrame z :=
  ⟨h.inFlight, h.stations, h.departures, h.pullout, h.frost, h.fuelPriority, h.fuelOrdinary, h.washQueue,
    fun kind member => h.silent kind fun granted => by
      rw [List.mem_singleton.1 granted] at member
      exact absurd member (by decide)⟩

theorem Yard.LaneTold.frame (h : y.LaneTold n z) : y.LineFrame z := by
  obtain ⟨w, granted, rfl | rfl⟩ := h.berths
  · exact .berths granted
  · exact (Yard.LineFrame.berths granted).trans ⟨rfl, rfl, rfl, rfl, rfl, rfl, rfl, rfl, fun _ _ => rfl⟩

/-- What the lanes of a list told of a restart leave: what one of them leaves, for each. -/
structure Yard.LanesTold (ns : List Nat) (y z : Yard) : Prop where
  numbers : z.lanes.map Lane.number = y.lanes.map Lane.number
  frame : y.LineFrame z
  lit : ∀ n ∈ ns, z.Lit n
  others : ∀ m, y.Lit m → z.Lit m
  queued : ∀ m, y.SignQueued m → z.SignQueued m
  only : y.OnlySigns → z.OnlySigns
  signs : y.OnlySigns → ∀ n ∈ ns, n ∈ y.lanes.map Lane.number → z.SignQueued n

theorem Yard.lanesRestarted_told (e : Env) : ∀ (ns : List Nat) (y : Yard),
    y.LanesTold ns (ns.foldl (fun y n => y.laneRestarted e n) y)
  | [], y => ⟨rfl, .berths (.refl _ y), nofun, fun _ h => h, fun _ h => h, fun h => h, nofun⟩
  | n :: ns, y => by
    have first := Yard.laneRestarted_told e n y
    have rest := Yard.lanesRestarted_told e ns (y.laneRestarted e n)
    rw [List.foldl_cons]
    refine ⟨rest.numbers.trans first.numbers, first.frame.trans rest.frame, fun m member => ?_,
      fun m lit => rest.others m (first.others m lit), fun m held => rest.queued m (first.queued m held),
      fun only => rest.only (first.only only), fun only m member listed => ?_⟩
    · rcases List.mem_cons.1 member with rfl | later
      · exact rest.others m first.lit
      · exact rest.lit m later
    · rcases List.mem_cons.1 member with rfl | later
      · exact rest.queued m (first.sign only listed)
      · exact rest.signs (first.only only) m later (by rwa [first.numbers])

/-! ### The points told -/

/-- The command a point orders again after a restart (R77, R94). -/
def Point.restartOrder (q : Point) : Option Order :=
  if q.state = .calling then some (.call (q.bus.getD 0))
  else if q.state = .recovering then some .resetPoint
  else if q.state = .occupied then q.program.map Order.startPass
  else none

theorem Yard.pointRestarted_found (found : y.point? p = some q) : y.pointRestarted p =
    match q.restartOrder with
    | some order => y.wantPoint p order
    | none => y := by
  rw [Yard.pointRestarted_eq, found, Point.restartOrder]
  dsimp only
  split_ifs
  · rfl
  · rfl
  · cases q.program <;> rfl
  · rfl

theorem Point.restartOrder_up {order : Order} (orders : q.restartOrder = some order) : q.state ≠ .down := by
  intro down
  simp [Point.restartOrder, down] at orders

/-- No command of the point waits or is on the line. -/
def Yard.Unordered (p : PointId) (y : Yard) : Prop := y.inFlight = none ∧ ∀ c ∈ y.cmdQueue, c.owner ≠ .point p

theorem Yard.Unordered.outstanding (h : y.Unordered p) : ¬ (y.outstanding? p).isSome = true := by
  obtain ⟨idle, unqueued⟩ := h
  rw [Yard.outstanding_iff]
  rintro (⟨c, member, owner⟩ | ⟨g, flight, _⟩)
  · exact unqueued c member owner
  · rw [idle] at flight
    cases flight

/-- A point told of a restart with no command of its own outstanding queues the one it orders again, and changes nothing else. -/
theorem Yard.pointRestarted_unordered (h : y.Unordered p) :
    ∃ added, y.pointRestarted p = { y with cmdQueue := y.cmdQueue ++ added } ∧ (∀ c ∈ added, c.owner = .point p) ∧
      ∀ q order, y.point? p = some q → q.restartOrder = some order →
        { owner := .point p, station := q.station, order } ∈ added := by
  cases found : y.point? p with
  | none =>
    refine ⟨[], ?_, nofun, fun q order absent => by cases absent⟩
    rw [Yard.pointRestarted_eq, found, List.append_nil]
  | some q =>
    rw [Yard.pointRestarted_found found]
    cases orders : q.restartOrder with
    | none =>
      refine ⟨[], by rw [List.append_nil], nofun, fun r order same wants => ?_⟩
      cases same
      rw [orders] at wants
      cases wants
    | some order =>
      refine ⟨[{ owner := .point p, station := q.station, order }],
        Yard.wantPoint_queues found (Point.restartOrder_up orders) h.outstanding order,
        fun c member => by rw [List.mem_singleton.1 member], fun r other same wants => ?_⟩
      cases same
      rw [orders] at wants
      cases wants
      exact List.mem_cons_self

/-- The points of a list told of a restart, none of them with a command outstanding: each queues the command it orders again. -/
theorem Yard.pointsRestarted_unordered : ∀ {ps : List PointId} {y : Yard}, ps.Nodup → (∀ p ∈ ps, y.Unordered p) →
    ∃ added, ps.foldl (fun y p => y.pointRestarted p) y = { y with cmdQueue := y.cmdQueue ++ added } ∧
      ∀ p ∈ ps, ∀ q order, y.point? p = some q → q.restartOrder = some order →
        ∃ c ∈ added, c.owner = .point p ∧ c.order = order
  | [], y, _, _ => ⟨[], by rw [List.append_nil]; rfl, nofun⟩
  | p :: ps, y, once, unordered => by
    obtain ⟨new, rest⟩ := List.nodup_cons.1 once
    obtain ⟨idle, unqueued⟩ := unordered p List.mem_cons_self
    obtain ⟨first, told, owned, ordered⟩ := Yard.pointRestarted_unordered ⟨idle, unqueued⟩
    have still : ∀ r ∈ ps, (y.pointRestarted p).Unordered r := by
      intro r member
      rw [told]
      refine ⟨idle, fun c queued owner => ?_⟩
      rcases List.mem_append.1 queued with old | added
      · exact (unordered r (List.mem_cons_of_mem p member)).2 c old owner
      · rw [owned c added] at owner
        cases owner
        exact new member
    obtain ⟨later, tolds, orders⟩ := Yard.pointsRestarted_unordered rest still
    refine ⟨first ++ later, ?_, fun r member q order found wants => ?_⟩
    · rw [List.foldl_cons, tolds, told]
      simp only [List.append_assoc]
    · rcases List.mem_cons.1 member with rfl | behind
      · exact ⟨_, List.mem_append_left _ (ordered q order found wants), rfl, rfl⟩
      · obtain ⟨c, within, commanded⟩ := orders r behind q order (by rw [told]; exact found) wants
        exact ⟨c, List.mem_append_right _ within, commanded⟩

/-! ### Everything discarded -/

/-- ASK_RESULT for each ask removed (R156). -/
def Yard.asksDropped (e : Env) (asks : List Ask) (y : Yard) : Yard :=
  asks.foldl (fun y a => y.askResult e a 5 0) y

theorem Yard.asksDropped_rest (e : Env) : ∀ (asks : List Ask) (y : Yard),
    y.asksDropped e asks = { y with notices := (y.asksDropped e asks).notices }
  | [], _ => rfl
  | a :: asks, y => Yard.asksDropped_rest e asks (y.askResult e a 5 0)

/-- The tallies of ASK_RESULT and LINE_RESTARTED after the asks' results (R176). -/
theorem Yard.asksDropped_tallies (e : Env) : ∀ (asks : List Ask) {y : Yard}, y.notices.InForm →
    (y.asksDropped e asks).notices.InForm ∧
      (y.asksDropped e asks).notices.tallies.getD 40 0 = min 65535 (y.notices.tallies.getD 40 0 + asks.length) ∧
      (y.asksDropped e asks).notices.tallies.getD 41 0 = y.notices.tallies.getD 41 0
  | [], y, form => ⟨form, (Nat.min_eq_right (form.tally_le 40)).symm, rfl⟩
  | a :: asks, y, form => by
    have posted : (y.askResult e a 5 0).notices.InForm := form.post _ _ _ _ _ _
    have counted : (y.askResult e a 5 0).notices.tallies.getD 40 0 = min 65535 (y.notices.tallies.getD 40 0 + 1) :=
      form.tally_post e.clock .askResult a.tag.toNat none 5 0
    have silent : (y.askResult e a 5 0).notices.tallies.getD 41 0 = y.notices.tallies.getD 41 0 :=
      Notices.tally_post_other (k := .lineRestarted) (by decide) a.tag.toNat none 5 0 y.notices
    obtain ⟨last, results, restarts⟩ := Yard.asksDropped_tallies e asks posted
    refine ⟨last, results.trans ?_, restarts.trans silent⟩
    rw [counted, List.length_cons]
    omega

/-- The yard after a restart, before its owners are told (R156): commands and asks discarded, the results and LINE_RESTARTED posted. -/
def Yard.discarded (e : Env) (asks : List Ask) (y : Yard) : Yard :=
  (y.resetLine.asksDropped e asks).post e .lineRestarted 0 none asks.length y.commandCount

theorem Yard.discarded_rest (e : Env) (asks : List Ask) (y : Yard) :
    y.discarded e asks = { y.resetLine with notices := (y.discarded e asks).notices } := by
  unfold Yard.discarded
  rw [Yard.asksDropped_rest]
  rfl

theorem Yard.discarded_tallies (e : Env) (asks : List Ask) (form : y.notices.InForm) :
    (y.discarded e asks).notices.tallies.getD 40 0 = min 65535 (y.notices.tallies.getD 40 0 + asks.length) ∧
      (y.discarded e asks).notices.tallies.getD 41 0 = min 65535 (y.notices.tallies.getD 41 0 + 1) := by
  obtain ⟨last, results, restarts⟩ := Yard.asksDropped_tallies e asks (y := y.resetLine) form
  refine ⟨(Notices.tally_post_other (k := .askResult) (by decide) 0 none asks.length y.commandCount _).trans results, ?_⟩
  refine (last.tally_post e.clock .lineRestarted 0 none asks.length y.commandCount).trans ?_
  exact congrArg (fun n => min 65535 (n + 1)) restarts

/-! ### The owners told -/

theorem PointsRising.nodup {ps : List PointId} (rising : PointsRising ps) : ps.Nodup :=
  rising.1.imp fun {p r} before same => by
    subst same
    cases p <;> exact absurd before (Nat.lt_irrefl _)

/-- Nothing waits after the discard, so no point has a command outstanding once the lanes have been told. -/
theorem Yard.LanesTold.unordered {ns : List Nat} (h : y.LanesTold ns z) (idle : y.inFlight = none) (empty : y.cmdQueue = [])
    (p : PointId) : z.Unordered p := by
  have only : y.OnlySigns := fun c member => by
    rw [empty] at member
    cases member
  refine ⟨h.frame.inFlight.trans idle, fun c member owner => ?_⟩
  obtain ⟨n, content, lane, sign⟩ := h.only only c member
  rw [lane] at owner
  cases owner

/-- Every owner told of a restart that left no command (R157). -/
theorem Yard.ownersRestarted_told (idle : y.inFlight = none) (empty : y.cmdQueue = []) (once : (y.points.map Point.id).Nodup) :
    ∃ lanes added, y.LanesTold (y.lanes.map Lane.number) lanes ∧
      y.ownersRestarted e = { lanes with cmdQueue := lanes.cmdQueue ++ added } ∧
      ∀ p q order, lanes.point? p = some q → q.restartOrder = some order → ∃ c ∈ added, c.owner = .point p ∧ c.order = order := by
  have told := Yard.lanesRestarted_told e (y.lanes.map Lane.number) y
  have ids := Yard.lanesRestarted_ids e (y.lanes.map Lane.number) y
  obtain ⟨added, points, orders⟩ := Yard.pointsRestarted_unordered (ids ▸ once) (fun p _ => told.unordered idle empty p)
  refine ⟨_, added, told, points, fun p q order found wants => orders p ?_ q order found wants⟩
  exact List.mem_map.2 ⟨q, List.mem_of_find?_eq_some found, Yard.point_id found⟩

/-- The round engine after a restart (R160, R170): IDLE, and in RUNNING both classes due. -/
theorem Rounds.restarted_eq (mode : YardMode) (r : Rounds) : r.restarted mode =
    { r with
      active := none, count := 0, garbles := 0, stack := [], taken := none
      urgentDue := mode == .running || r.urgentDue, routineDue := mode == .running || r.routineDue } := by
  cases mode <;> rfl

theorem Yard.commandCount_eq (y : Yard) : y.commandCount = y.cmdQueue.length + if y.inFlight.isSome then 1 else 0 := by
  unfold Yard.commandCount
  cases y.inFlight <;> rfl

/-- Settles O53: the discard, then the lanes and the points told, each giving its own claims. -/
theorem lineRestarted : Obligations.LineRestarted := by
  intro s tag body e y running asks reset told lane point bounded taken
  have rest := y.discarded_rest e asks
  have dropped : y.discarded e asks = told := by
    rw [Yard.discarded, Yard.commandCount_eq]
    rfl
  have numbers : (y.discarded e asks).lanes.map Lane.number = y.lanes.map Lane.number := by
    rw [rest]
    exact List.map_map
  have ids : (y.discarded e asks).points.map Point.id = y.points.map Point.id := by
    rw [rest]
    exact List.map_map
  have empty : (y.discarded e asks).cmdQueue = [] := by rw [rest]; rfl
  have idle : (y.discarded e asks).inFlight = none := by rw [rest]; rfl
  obtain ⟨lanes, added, laneTold, owners, ordered⟩ :=
    Yard.ownersRestarted_told (e := e) idle empty (by rw [ids]; exact bounded.pointsRising.nodup)
  obtain ⟨results, restarts⟩ := y.discarded_tallies e asks bounded.notices
  have only : (y.discarded e asks).OnlySigns := fun c member => by
    rw [empty] at member
    cases member
  have orders {p : PointId} {q : Point} {order : Order} (found : lanes.point? p = some q) (wants : q.restartOrder = some order) :
      ∃ c ∈ lanes.cmdQueue ++ added, c.owner = .point p ∧ c.order = order := by
    obtain ⟨c, member, commanded⟩ := ordered p q order found wants
    exact ⟨c, List.mem_append_right _ member, commanded⟩
  refine ⟨(y.discarded e asks).ownersRestarted e, ?_, ?_, ?_⟩
  · refine (exec_acts (c := .lineRestart) rfl taken rfl rfl (anyMode_eq _) rfl).trans ?_
    refine congrArg (fun t : State => Host.Outcome.next (t.reply body .ok [])) ?_
    show s.restartLine = _
    rw [State.restartLine, Rounds.restarted_eq]
    rfl
  · have eachLane : lane = fun y n => y.laneRestarted e n := rfl
    have eachPoint : point = fun y p => y.pointRestarted p := funext fun z => funext fun p => (Yard.pointRestarted_eq p z).symm
    dsimp only
    rw [eachLane, eachPoint, ← dropped, ← numbers, ← ids, ← Yard.lanesRestarted_ids e ((y.discarded e asks).lanes.map Lane.number)]
    rfl
  rw [owners]
  refine ⟨laneTold.frame.inFlight.trans idle, laneTold.frame.stations.trans (by rw [rest]; rfl), fun n l found => ?_,
    fun l member => ?_, fun p q f found calling named => ?_, fun p q found recovering => ?_,
    fun p q program found occupied washes => ?_, ?_, ?_, laneTold.frame.departures.trans (by rw [rest]; rfl),
    laneTold.frame.pullout.trans (by rw [rest]; rfl), laneTold.frame.frost.trans (by rw [rest]; rfl),
    laneTold.frame.fuelPriority.trans (by rw [rest]; rfl), laneTold.frame.fuelOrdinary.trans (by rw [rest]; rfl),
    laneTold.frame.washQueue.trans (by rw [rest]; rfl)⟩
  · have listed : n ∈ lanes.lanes.map Lane.number :=
      List.mem_map.2 ⟨l, List.mem_of_find?_eq_some found, Yard.lane_number found⟩
    rw [laneTold.numbers] at listed
    exact laneTold.lit n listed l found
  · have listed : l.number ∈ (y.discarded e asks).lanes.map Lane.number := by
      rw [numbers]
      exact List.mem_map_of_mem member
    obtain ⟨c, queued, sign⟩ := laneTold.signs only l.number listed listed
    exact ⟨c, List.mem_append_left _ queued, sign⟩
  · exact orders found (by rw [Point.restartOrder, if_pos calling, named]; rfl)
  · exact orders found (by simp [Point.restartOrder, recovering])
  · exact orders found (by simp [Point.restartOrder, occupied, washes])
  · exact (laneTold.frame.silent .askResult (by simp)).trans results
  · exact (laneTold.frame.silent .lineRestarted (by simp)).trans restarts

end Sys2Proof.Machine
end

section
/-!
PROOFS. The reports of islands and wash lanes (O55): arrivals and the taking of a bus, faults, a point cleared, a point ready,
FUEL_DONE and WASH_DONE. Each report's step is said by the point's state, its kind and its bus.
-/
namespace Sys2Proof.Machine

variable {e : Env} {x y z : Yard} {p : PointId} {q : Point} {f : Nat} {b : Bus} {t : PoolEntry}

/-! ### The two kinds of point -/

theorem Yard.pointFaulted_island (island : p.isWash = false) (code quantity : Nat) :
    y.pointFaulted e p code quantity = y.islandFault e p code quantity := by
  cases p
  · rfl
  · cases island

theorem Yard.pointFaulted_wash (wash : p.isWash = true) (code quantity : Nat) :
    y.pointFaulted e p code quantity = y.washFault e p code quantity := by
  cases p
  · cases wash
  · rfl

theorem Yard.pointReady_island (island : p.isWash = false) : y.pointReady e p = y.islandReady e p := by
  cases p
  · rfl
  · cases island

theorem Yard.pointReady_wash (wash : p.isWash = true) : y.pointReady e p = y.washReady e p := by
  cases p
  · cases wash
  · rfl

/-- A POINT_CLEAR for the point's own bus, or for none (R71, R90). -/
def Point.Own (q : Point) (named : Option Nat) : Prop := named = none ∨ named = q.bus

theorem Point.own_iff (q : Point) (named : Option Nat) : (named.isNone || named == q.bus) = true ↔ q.Own named := by
  simp [Point.Own]

theorem Point.ownClear_iff (q : Point) (named : Option Nat) : q.ownClear named = true ↔ q.bus ≠ none ∧ q.Own named := by
  rw [Point.ownClear, Bool.and_eq_true, Point.own_iff, Option.isSome_iff_ne_none]

/-! ### Turns in service -/

/-- Steps that leave a bus's entry and its plan wait leave whether it is served at a point. -/
theorem Yard.servingAt_congr (turn : z.turn? f = y.turn? f) (wait : (z.bus? f).map Bus.wait = (y.bus? f).map Bus.wait) :
    z.servingAt p f = y.servingAt p f := by
  unfold Yard.servingAt Yard.waitIn
  rw [turn]
  cases after : z.bus? f <;> cases before : y.bus? f <;> simp_all

/-- A wash step of a bus served at the point ends with an advance past it, whichever signal ends it (R85). -/
theorem Yard.washStep_served (serving : y.servingAt p f = true) (entry : y.turn? f = some t) (residue : Nat) (place : Option Place) :
    y.completeWash e f residue place = (y.washEnded e f residue t.request.passes place).advancePast e f ∧
      y.frostWash e f residue place = (y.washEnded e f residue t.request.passes place).advancePast e f := by
  obtain ⟨_, b, _, _, known, served⟩ := Yard.servingAt_iff.1 serving
  exact Yard.washStep_ends entry known served

/-- "Service complete" handed to a bus in SERVING (R49). -/
theorem Yard.serviceComplete_serving (known : y.bus? f = some b) (serving : b.wait = .serving) :
    y.serviceComplete e f = y.advancePast e f := if_pos ((Yard.waitIn_iff known _).2 (by simp [serving]))

/-- An advance past the step under the cursor (R39, R49). -/
theorem Yard.advancePast_known (known : y.bus? f = some b) : y.advancePast e f =
    (y.setBus f (fun b => { b with repeatCount := none })).advanceSteps e f 16 none (b.cursor.getD 0 + 1) := by
  simp only [Yard.advancePast, known]
  rfl

/-! ### Arrivals -/

theorem Yard.pointArrival_called (found : y.point? p = some q) (calling : q.state = .calling) (named : q.bus = some f) :
    y.pointArrival e p f = y.takeBus p f := by
  simp only [Yard.pointArrival, found, calling, if_pos named]

/-- A takeover (R68, R83). -/
theorem Yard.pointArrival_overtakes (found : y.point? p = some q) (calling : q.state = .calling) (other : q.bus ≠ some f)
    (qualifies : y.qualifies q f = true) : y.pointArrival e p f = y.takeover e p (q.bus.getD 0) f := by
  simp only [Yard.pointArrival, found, calling, if_neg other, if_pos qualifies]

theorem Yard.pointArrival_free (found : y.point? p = some q) (free : q.state = .free) (qualifies : y.qualifies q f = true) :
    y.pointArrival e p f = (y.withdrawElsewhere p f).takeBus p f := by
  simp only [Yard.pointArrival, found, free, if_pos qualifies]

theorem Yard.pointArrival_own (found : y.point? p = some q)
    (keeps : q.state = .occupied ∨ q.state = .serving ∨ q.state = .recovering ∨ q.state = .clearing) (named : q.bus = some f) :
    y.pointArrival e p f = y := by
  rcases keeps with state | state | state | state <;> simp only [Yard.pointArrival, found, state, if_pos named]

/-- A bus that the point neither takes nor has (R67, R68, R83). -/
theorem Yard.pointArrival_wrong (found : y.point? p = some q)
    (wrong : (q.state = .calling ∧ q.bus ≠ some f ∧ ¬ y.qualifies q f = true) ∨ (q.state = .free ∧ ¬ y.qualifies q f = true) ∨
      ((q.state = .occupied ∨ q.state = .serving ∨ q.state = .recovering ∨ q.state = .clearing) ∧ q.bus ≠ some f) ∨
      q.state = .closed ∨ q.state = .down ∨ q.state = .frozen) : y.pointArrival e p f = y.wrongBus e q f := by
  rcases wrong with ⟨state, other, unfit⟩ | ⟨state, unfit⟩ | ⟨state | state | state | state, other⟩ | state | state | state
  · simp only [Yard.pointArrival, found, state, if_neg other, if_neg unfit]
  · simp only [Yard.pointArrival, found, state, if_neg unfit]
  all_goals simp only [Yard.pointArrival, found, state]
  all_goals exact if_neg other

/-- A seated bus by its record: one in TURN or CALLED is SERVING (R49). -/
theorem Yard.seat_eq (known : y.bus? f = some b) (g : Point → Point) :
    let z := (y.setPoint p g).setTurn f (fun t => { t with status := .serving p })
    y.seat p f g = if b.wait = .called ∨ b.wait = .turn then z.setBus f (fun b => { b with wait := .serving }) else z :=
  Yard.busAtPoint_eq known

/-! ### Faults -/

section

variable (code quantity : Nat)

theorem Yard.islandFault_out (found : y.point? p = some q) (out : q.state = .closed ∨ q.state = .down ∨ q.state = .frozen) :
    y.islandFault e p code quantity = y.postFault e q code quantity := by
  rcases out with state | state | state <;> simp only [Yard.islandFault, found, state]

theorem Yard.islandFault_recovering (found : y.point? p = some q) (recovering : q.state = .recovering) :
    y.islandFault e p code quantity = (y.postFault e q code quantity).downPoint e p .failed := by
  simp only [Yard.islandFault, found, recovering]

/-- A fault of an island that stands or serves: recovery for the first one, DOWN for the next (R72). -/
theorem Yard.islandFault_undoes (found : y.point? p = some q)
    (up : (q.state = .free ∨ q.state = .calling ∨ q.state = .clearing) ∨ q.state = .occupied ∨ q.state = .serving) :
    let undone := (y.postFault e q code quantity).undoTurn e p
    y.islandFault e p code quantity =
      if q.faults = 0 then undone.startRecovery e p (fun q => { q.vacated with faults := 1 }) else undone.downPoint e p .failed := by
  rcases up with (state | state | state) | state | state <;> simp only [Yard.islandFault, found, state]

theorem Yard.washFault_out (found : y.point? p = some q) (out : q.state = .closed ∨ q.state = .down) :
    y.washFault e p code quantity = y.postFault e q code quantity := by
  rcases out with state | state <;> simp only [Yard.washFault, found, state]

/-- A fault of a wash lane that serves no bus (R87). -/
theorem Yard.washFault_stands (found : y.point? p = some q)
    (stands : (q.state = .free ∨ q.state = .calling ∨ q.state = .clearing) ∨ q.state = .frozen) :
    y.washFault e p code quantity = ((y.postFault e q code quantity).undoTurn e p).startRecovery e p Point.vacated := by
  rcases stands with (state | state | state) | state <;> simp only [Yard.washFault, found, state]

/-- A fault of a wash lane at work with retries left (R87). -/
theorem Yard.washFault_retries (found : y.point? p = some q) (serves : q.state = .occupied ∨ q.state = .serving)
    (left : q.retries < 3) : y.washFault e p code quantity =
      ((y.postFault e q code quantity).setPoint p (fun q =>
        { q with
          state := .recovering, retries := q.retries + 1
          recoveryTimer := some (e.params.recoveryWait * 60) })).wantPoint p .resetPoint := by
  rcases serves with state | state <;> simp only [Yard.washFault, found, state, if_pos left] <;> rfl

/-- A fault of a wash lane that recovers already, or has no retries left (R87, R88). -/
theorem Yard.washFault_down (found : y.point? p = some q)
    (fails : q.state = .recovering ∨ (q.state = .occupied ∨ q.state = .serving) ∧ 3 ≤ q.retries) :
    y.washFault e p code quantity = (y.postFault e q code quantity).washDown e p := by
  rcases fails with state | ⟨state | state, none⟩
  · simp only [Yard.washFault, found, state]
  all_goals simp only [Yard.washFault, found, state, if_neg (Nat.not_lt.2 none)]

end

/-! ### A point cleared -/

section

variable {named : Option Nat}

/-- The turn of a bus that leaves early returned (R71, R90). -/
theorem Yard.leftEarly_eq (found : y.point? p = some q) : y.leftEarly e q =
    match q.bus with
    | none => y
    | some f => if y.servingAt p f = true then y.returnTurn e p f else y := by
  obtain rfl : q.id = p := Yard.point_id found
  unfold Yard.leftEarly
  cases q.bus <;> rfl

theorem Yard.pointClear_clearing (found : y.point? p = some q) (clearing : q.state = .clearing) (own : q.Own named) :
    y.pointClear e p named = y.freePoint p := by
  have ours := (q.own_iff named).2 own
  cases p <;> simp only [Yard.pointClear, Yard.islandClear, Yard.washClear, found, clearing, if_pos ours]

theorem Yard.pointClear_serving (found : y.point? p = some q) (serves : q.state = .occupied ∨ q.state = .serving)
    (bus : q.bus ≠ none) (own : q.Own named) : y.pointClear e p named = (y.leftEarly e q).freePoint p := by
  have ours := (q.ownClear_iff named).2 ⟨bus, own⟩
  rcases serves with state | state <;> cases p <;>
    simp only [Yard.pointClear, Yard.islandClear, Yard.washClear, found, state, if_pos ours]

theorem Yard.pointClear_recovering (found : y.point? p = some q) (wash : p.isWash = true) (recovering : q.state = .recovering)
    (bus : q.bus ≠ none) (own : q.Own named) : y.pointClear e p named =
      (y.leftEarly e q).vacatePoint p (fun q => { q with bus := none, program := none, passesLeft := 0 }) := by
  have ours := (q.ownClear_iff named).2 ⟨bus, own⟩
  cases p with
  | island n => cases wash
  | wash n => simp only [Yard.pointClear, Yard.washClear, found, recovering, if_pos ours]

/-- A POINT_CLEAR that names another bus, or finds none to leave, changes nothing (R71, R90). -/
theorem Yard.pointClear_other (found : y.point? p = some q) (clearing : ¬ (q.state = .clearing ∧ q.Own named))
    (serving : ¬ ((q.state = .occupied ∨ q.state = .serving) ∧ q.bus ≠ none ∧ q.Own named))
    (recovering : ¬ (p.isWash = true ∧ q.state = .recovering ∧ q.bus ≠ none ∧ q.Own named)) :
    y.pointClear e p named = y := by
  have unowned (clears : q.state = .clearing) : ¬ (named.isNone || named == q.bus) = true := fun ours =>
    clearing ⟨clears, (q.own_iff named).1 ours⟩
  have unserved (serves : q.state = .occupied ∨ q.state = .serving) : ¬ q.ownClear named = true := fun ours =>
    serving ⟨serves, (q.ownClear_iff named).1 ours⟩
  have unwashed (wash : p.isWash = true) (recovers : q.state = .recovering) : ¬ q.ownClear named = true := fun ours =>
    recovering ⟨wash, recovers, (q.ownClear_iff named).1 ours⟩
  cases p with
  | island n =>
    simp only [Yard.pointClear, Yard.islandClear, found]
    split
    · next state => exact if_neg (unowned state)
    · next state => exact if_neg (unserved (.inl state))
    · next state => exact if_neg (unserved (.inr state))
    all_goals rfl
  | wash n =>
    simp only [Yard.pointClear, Yard.washClear, found]
    split
    · next state => exact if_neg (unowned state)
    · next state => exact if_neg (unserved (.inl state))
    · next state => exact if_neg (unserved (.inr state))
    · next state => exact if_neg (unwashed rfl state)
    all_goals rfl

end

/-! ### A point ready -/

theorem Yard.islandReady_up (found : y.point? p = some q) (recovering : q.state = .recovering) : y.islandReady e p =
    if q.closePending = true then y.freePoint p else (y.freePoint p).post e .pointUp 0 (some (.point p)) 4 0 := by
  simp only [Yard.islandReady, found, if_pos recovering]
  rfl

theorem Yard.pointReady_idle (found : y.point? p = some q) (idle : q.state ≠ .recovering) : y.pointReady e p = y := by
  cases p <;> simp only [Yard.pointReady, Yard.islandReady, Yard.washReady, found, if_neg idle]

/-- A wash lane's recovery over (R89): its timer stopped, POINT_UP posted. -/
def Yard.recovered (e : Env) (p : PointId) (y : Yard) : Yard :=
  (y.setPoint p (fun q => { q with recoveryTimer := none })).post e .pointUp 0 (some (.point p)) 4 0

theorem Yard.recovered_point (found : y.point? p = some q) :
    (y.recovered e p).point? p = some { q with recoveryTimer := none } := by
  rw [Yard.recovered, Yard.point_post, Yard.point_setPoint _ _ _ (by intro; rfl), if_pos rfl, found]
  rfl

section

variable (found : y.point? p = some q) (recovering : q.state = .recovering)

include found recovering

/-- POINT_READY at a RECOVERING wash lane without a bus (R89). -/
theorem Yard.washReady_empty (empty : q.bus = none) : y.washReady e p = (y.recovered e p).freePoint p := by
  simp only [Yard.washReady, found, if_pos recovering, empty]
  rfl

/-- POINT_READY at a RECOVERING wash lane whose bus is not served there (R89). -/
theorem Yard.washReady_unserved (named : q.bus = some f) (unserved : y.servingAt p f = false) :
    y.washReady e p = (y.recovered e p).toClearing p := by
  simp only [Yard.washReady, found, if_pos recovering, named]
  exact if_pos unserved

/-- POINT_READY in frost (R85, R89): the wash step of the bus served there ends. -/
theorem Yard.washReady_frost (named : q.bus = some f) (serving : y.servingAt p f = true) (frost : y.frost = true) :
    y.washReady e p = ((y.recovered e p).frostWash e f q.passesLeft (some (.point p))).toClearing p := by
  simp only [Yard.washReady, found, if_pos recovering, named]
  exact (if_neg fun no => Bool.noConfusion (serving.symm.trans no)).trans (if_pos frost)

/-- POINT_READY out of frost (R89): the next pass of the bus served there. -/
theorem Yard.washReady_thawed (named : q.bus = some f) (serving : y.servingAt p f = true) (thawed : y.frost = false) :
    y.washReady e p = (y.recovered e p).orderPass p := by
  simp only [Yard.washReady, found, if_pos recovering, named]
  exact (if_neg fun no => Bool.noConfusion (serving.symm.trans no)).trans
    (if_neg fun frost => Bool.noConfusion (thawed.symm.trans frost))

end

/-- A pass ordered (R86, R89). -/
theorem Yard.orderPass_eq {program : Nat} (found : y.point? p = some q) (washes : q.program = some program) :
    y.orderPass p = (y.setPoint p (fun q => { q with state := .occupied })).wantPoint p (.startPass program) := by
  simp only [Yard.orderPass, found, washes]

/-! ### FUEL_DONE -/

/-- Fuel counted (R70): the night tally, the bus's fuel taken and wanted, the island's faults. -/
def Yard.fuelCounted (p : PointId) (f tenths : Nat) (y : Yard) : Yard :=
  ((y.addTally p tenths).addFuel f tenths).setPoint p (fun q => { q with faults := 0 })

section

variable {tenths : Nat} (found : y.point? p = some q)

include found

theorem Yard.fuelDone_idle (idle : ¬ (q.state = .occupied ∨ q.state = .serving)) :
    y.fuelDone e p tenths = y.addTally p tenths := by
  simp only [Yard.fuelDone, found, if_neg idle]

/-- FUEL_DONE at an island that serves no bus (R70). -/
theorem Yard.fuelDone_empty (serves : q.state = .occupied ∨ q.state = .serving) (empty : q.bus = none) :
    y.fuelDone e p tenths =
      ((y.addTally p tenths).setPoint p (fun q => { q with faults := 0 })).setPoint p (fun q => { q with state := .clearing }) := by
  simp only [Yard.fuelDone, found, if_pos serves, empty]

variable (serves : q.state = .occupied ∨ q.state = .serving) (named : q.bus = some f)

include serves named

/-- FUEL_DONE at an island whose bus is not served there (R70). -/
theorem Yard.fuelDone_unserved (unserved : (y.fuelCounted p f tenths).servingAt p f = false) :
    y.fuelDone e p tenths = (y.fuelCounted p f tenths).setPoint p (fun q => { q with state := .clearing }) := by
  simp only [Yard.fuelDone, found, if_pos serves, named]
  exact congrArg (Yard.setPoint p _) (if_neg fun serving => Bool.noConfusion (unserved.symm.trans serving))

/-- FUEL_DONE at an island with the bus it serves (R70): its turn ends. -/
theorem Yard.fuelDone_served (serving : (y.fuelCounted p f tenths).servingAt p f = true) :
    y.fuelDone e p tenths =
      ((((y.fuelCounted p f tenths).freeTurn f).post e .turnDone f (some (.point p)) 0 tenths).serviceComplete e f).setPoint p
        (fun q => { q with state := .clearing }) := by
  simp only [Yard.fuelDone, found, if_pos serves, named]
  exact congrArg (Yard.setPoint p _) (if_pos serving)

end

/-- Fuel counted leaves whether its bus is served at the point. -/
theorem Yard.fuelCounted_servingAt (tenths : Nat) (y : Yard) : (y.fuelCounted p f tenths).servingAt p f = y.servingAt p f := by
  refine Yard.servingAt_congr rfl ?_
  show (((y.addTally p tenths).addFuel f tenths).bus? f).map Bus.wait = _
  rw [Yard.addFuel, Yard.bus_setBus _ _ _ (by intro; rfl), if_pos rfl, Option.map_map]
  rfl

/-! ### WASH_DONE -/

/-- A pass counted at a wash lane (R86): the night tally, the passes left, the retries. -/
def Yard.passCounted (p : PointId) (left : Nat) (y : Yard) : Yard :=
  (y.addTally p 1).setPoint p (fun q => { q with passesLeft := left, retries := 0 })

theorem Yard.passCounted_point (found : y.point? p = some q) (left : Nat) : (y.passCounted p left).point? p =
    some { q with tally := satAdd p.tallyLimit q.tally 1, passesLeft := left, retries := 0 } := by
  have tallied : (y.addTally p 1).point? p = some { q with tally := satAdd p.tallyLimit q.tally 1 } := by
    rw [Yard.addTally, Yard.point_setPoint _ _ _ (by intro; rfl), if_pos rfl, found]
    rfl
  rw [Yard.passCounted, Yard.point_setPoint _ _ _ (by intro; rfl), if_pos rfl, tallied]
  rfl

theorem Yard.washDone_idle (found : y.point? p = some q) (idle : ¬ (q.state = .occupied ∨ q.state = .serving)) :
    y.washDone e p = y.addTally p 1 := by
  simp only [Yard.washDone, found, if_neg idle]

section

variable (found : y.point? p = some q) (serves : q.state = .occupied ∨ q.state = .serving)

include found serves

/-- WASH_DONE at a wash lane at work without a bus (R86). -/
theorem Yard.washDone_empty (empty : q.bus = none) : y.washDone e p = (y.passCounted p (q.passesLeft - 1)).freePoint p := by
  simp only [Yard.washDone, found, if_pos serves, empty]
  rfl

/-- WASH_DONE at a wash lane whose bus is not served there (R86). -/
theorem Yard.washDone_unserved (named : q.bus = some f) (unserved : y.servingAt p f = false) :
    y.washDone e p = (y.passCounted p (q.passesLeft - 1)).toClearing p := by
  simp only [Yard.washDone, found, if_pos serves, named]
  exact if_pos unserved

variable (named : q.bus = some f) (serving : y.servingAt p f = true)

include named serving

/-- The last pass done (R86): the wash step ends with no residue. -/
theorem Yard.washDone_last (last : q.passesLeft - 1 = 0) : y.washDone e p =
    ((y.passCounted p (q.passesLeft - 1)).completeWash e f 0 (some (.point p))).toClearing p := by
  simp only [Yard.washDone, found, if_pos serves, named]
  exact (if_neg fun no => Bool.noConfusion (serving.symm.trans no)).trans (if_pos last)

/-- A pass done in frost with passes left (R85, R86): the wash step ends with them as its residue. -/
theorem Yard.washDone_frost (more : q.passesLeft - 1 ≠ 0) (frost : y.frost = true) : y.washDone e p =
    ((y.passCounted p (q.passesLeft - 1)).frostWash e f (q.passesLeft - 1) (some (.point p))).toClearing p := by
  simp only [Yard.washDone, found, if_pos serves, named]
  exact (if_neg fun no => Bool.noConfusion (serving.symm.trans no)).trans ((if_neg more).trans (if_pos frost))

/-- A pass done out of frost with passes left (R86): the next one. -/
theorem Yard.washDone_next (more : q.passesLeft - 1 ≠ 0) (thawed : y.frost = false) :
    y.washDone e p = (y.passCounted p (q.passesLeft - 1)).orderPass p := by
  simp only [Yard.washDone, found, if_pos serves, named]
  exact (if_neg fun no => Bool.noConfusion (serving.symm.trans no)).trans
    ((if_neg more).trans (if_neg fun frost => Bool.noConfusion (thawed.symm.trans frost)))

end

/-! ### The reports -/

/-- A report handed to a point, by its kind. -/
theorem Yard.pointReport_kind {r : Report} {k : ReportKind} (kind : r.kind = k) :
    y.ownerReport e (some (.point p)) r = y.pointReport e p { r with kind := k } := by
  subst kind
  rfl

/-- An AT_POINT of an unknown bus (R22). -/
theorem Yard.arrivalReport_unknown {r : Report} (kind : r.kind = .atPoint) (unknown : y.bus? r.fleet = none) :
    y.ownerReport e (some (.point p)) r = y := by
  have unnamed : y.known? { r with kind := .atPoint } = none := by rw [Yard.known?, show y.bus? r.fleet = none from unknown]; rfl
  refine (Yard.pointReport_kind kind).trans ?_
  simp only [Yard.pointReport, unnamed]

/-- An AT_POINT of a known bus (R67, R83): its position, then the point's part. -/
theorem Yard.arrivalReport_known {r : Report} (kind : r.kind = .atPoint) (known : y.bus? r.fleet = some b) :
    y.ownerReport e (some (.point p)) r = (y.reportPosition e true r.fleet (.atPoint p)).pointArrival e p r.fleet := by
  have named : y.known? { r with kind := .atPoint } = some r.fleet := Yard.known_of_bus known
  refine (Yard.pointReport_kind kind).trans ?_
  simp only [Yard.pointReport, named]

/-- SERVICE_STARTED at a point (R69, R84). -/
theorem Yard.serviceStarted_eq (found : y.point? p = some q) : y.serviceStarted p =
    if q.state = .occupied then y.setPoint p (fun q => { q with state := .serving }) else y := by
  simp only [Yard.serviceStarted, found]

/-- A report of a kind that no point takes. -/
theorem Yard.pointReport_other {r : Report}
    (other : r.kind ∈ [ReportKind.arrived, .left, .exited, .tagSeen, .entered, .occupancy]) :
    y.ownerReport e (some (.point p)) r = y := by
  simp only [List.mem_cons, List.not_mem_nil, or_false] at other
  rcases other with kind | kind | kind | kind | kind | kind <;> exact Yard.pointReport_kind kind

/-- A POINT_CLEAR (R71, R90): the position of the bus it names, or of the point's own, then the point's part. -/
theorem Yard.clearReport_eq (found : y.point? p = some q) (r : Report) : y.clearReport e p r =
    (match (if r.fleet = 0 then q.bus else some r.fleet) with
      | none => y
      | some g => y.reportCleared p g).pointClear e p (if r.fleet = 0 then none else some r.fleet) := by
  unfold Yard.clearReport
  rw [found]
  by_cases absent : r.fleet = 0
  · simp only [if_pos absent, Option.none_or, Option.bind_some]
    cases q.bus <;> rfl
  · simp only [if_neg absent, Option.some_or]

/-- A bus that qualifies at the point, its request by its kind (R67, R83). -/
theorem Yard.qualifies_at (found : y.point? p = some q) : y.qualifies q f = true ↔
    ∃ t b, y.turn? f = some t ∧
      (match t.request with
        | .fuel k =>
          p.isWash = false ∧
            (q.offers = some .both ∨ (q.offers = some .diesel ∧ k = .diesel) ∨ (q.offers = some .gas ∧ k = .gas))
        | .wash _ _ => p.isWash = true) ∧
      y.bus? f = some b ∧ (b.wait = .turn ∨ b.wait = .called) ∧ ∀ r ∈ y.points, r.id = p ∨ r.bus ≠ some f ∨ r.state = .calling := by
  obtain rfl : q.id = p := Yard.point_id found
  rw [Yard.qualifies_iff]
  refine exists_congr fun t => exists_congr fun b => and_congr_right fun _ => and_congr_left fun _ => ?_
  cases t.request with
  | fuel k => exact q.serves_fuel k
  | wash program passes => exact q.serves_wash program passes

theorem Yard.withdrawElsewhere_eq (p : PointId) (f : Nat) (y : Yard) : y.withdrawElsewhere p f =
    match y.callingPoint? f with
    | none => y
    | some c => if c.id = p then y else y.withdrawCall c.id := by
  unfold Yard.withdrawElsewhere
  cases y.callingPoint? f <;> rfl

/-- The night tally counted up to its limit (Tables 4-3, 5-2). -/
theorem Yard.addTally_eq (p : PointId) (amount : Nat) (y : Yard) : y.addTally p amount =
    y.setPoint p (fun q =>
      { q with tally := min (match p with | .island _ => 16777215 | .wash _ => 65535) (q.tally + amount) }) := by
  cases p <;> rfl

/-- Settles O55: the reports by their kinds, arrivals and faults by the point's state, the ends of services by the bus served. -/
theorem serviceReports : Obligations.ServiceReports := by
  intro e y p q found serves limit goes ended
  have counts (amount : Nat) : y.addTally p amount = y.setPoint p (fun q => { q with tally := min limit (q.tally + amount) }) :=
    Yard.addTally_eq p amount y
  refine ⟨fun f => ⟨Yard.servingAt_iff, fun b known => Yard.advancePast_known known⟩, ?_, ?_, ?_, ?_, ?_⟩
  · intro r f is of moved
    refine ⟨fun other => ?_, fun kind => ⟨fun unknown => ?_, fun known => ?_⟩, fun kind => ?_,
      fun kind => ⟨fun occupied => ?_, fun other => ?_⟩, fun kind => ?_, fun kind => ?_, fun kind => ?_, fun kind => ?_⟩
    · exact Yard.pointReport_other other
    · exact Yard.arrivalReport_unknown kind unknown
    · obtain ⟨b, bus⟩ := Option.ne_none_iff_exists'.1 known
      exact Yard.arrivalReport_known kind bus
    · exact Yard.pointReport_kind kind
    · exact (Yard.pointReport_kind kind).trans ((Yard.serviceStarted_eq found).trans (if_pos occupied))
    · exact (Yard.pointReport_kind kind).trans ((Yard.serviceStarted_eq found).trans (if_neg other))
    · exact Yard.pointReport_kind kind
    · exact Yard.pointReport_kind kind
    · exact (Yard.pointReport_kind kind).trans (Yard.clearReport_eq found r)
    · exact Yard.pointReport_kind kind
  · intro f offered qualifies elsewhere displaced overtaken wrong keeps
    have fits : y.qualifies q f = true ↔ qualifies := Yard.qualifies_at found
    have withdrawn (z : Yard) : z.withdrawElsewhere p f = elsewhere z := Yard.withdrawElsewhere_eq p f z
    have stranger : y.wrongBus e q f = wrong := by
      rw [Yard.wrongBus, Yard.point_id found]
    refine ⟨Yard.pointArrival_called found, fun calling other qualified => ?_, fun free qualified => ?_,
      Yard.pointArrival_own found, fun other => ?_, fun t b entry known => ?_⟩
    · rw [Yard.pointArrival_overtakes found calling other (fits.2 qualified), Yard.takeover, withdrawn]
    · rw [Yard.pointArrival_free found free (fits.2 qualified), withdrawn]
    · rw [← stranger]
      refine Yard.pointArrival_wrong found ?_
      rwa [fits]
    · intro takes
      have seats (g : Point → Point) : y.seat p f g = takes g := Yard.seat_eq known g
      exact ⟨fun k fuel => (Yard.takeBus_fuel entry fuel).trans (seats _),
        fun program passes wash => (Yard.takeBus_wash entry wash).trans (congrArg (Yard.wantPoint p _) (seats _))⟩
  · intro vacates recovers leaves
    have left : y.leftEarly e q = leaves y := Yard.leftEarly_eq found
    refine ⟨?_, ?_, Yard.pointReady_idle found, fun recovering island => ?_, ?_⟩
    · intro code quantity posted is stands
      have post : y.postFault e q code quantity = posted := by rw [Yard.postFault, Yard.point_id found]
      have point : posted.point? p = some q := found
      refine ⟨fun out => ?_, fun island => ?_, fun wash => ?_⟩
      · cases kind : p.isWash
        · exact (Yard.pointFaulted_island kind code quantity).trans
            ((Yard.islandFault_out code quantity found (out.imp_right .inl)).trans post)
        · exact (Yard.pointFaulted_wash kind code quantity).trans ((Yard.washFault_out code quantity found out).trans post)
      · have fault {z : Yard} (faulted : y.islandFault e p code quantity = z) : is z :=
          (Yard.pointFaulted_island island code quantity).trans faulted
        refine ⟨fun frozen => fault ?_, fun recovering => fault ?_, fun up first => fault ?_, fun up again => fault ?_⟩
        · exact (Yard.islandFault_out code quantity found (.inr (.inr frozen))).trans post
        · rw [Yard.islandFault_recovering code quantity found recovering, post]
        · rw [Yard.islandFault_undoes code quantity found up, if_pos first, post]
          rfl
        · rw [Yard.islandFault_undoes code quantity found up, if_neg again, post]
      · have fault {z : Yard} (faulted : y.washFault e p code quantity = z) : is z :=
          (Yard.pointFaulted_wash wash code quantity).trans faulted
        refine ⟨fun up => fault ?_, fun work retries => fault ?_, fun fails => ⟨fun unserved => fault ?_, ?_⟩⟩
        · rw [Yard.washFault_stands code quantity found up, post]
          rfl
        · rw [Yard.washFault_retries code quantity found work retries, post]
        · rw [Yard.washFault_down code quantity found fails, post]
          exact Yard.washDown_unserved point unserved
        · intro f t named serving entry
          refine fault ?_
          rw [Yard.washFault_down code quantity found fails, post, Yard.washDown_served point named serving,
            (Yard.washStep_served (y := posted) serving entry _ _).1]
          rfl
    · intro named own is
      refine ⟨fun clearing ours => Yard.pointClear_clearing found clearing ours, fun work bus ours => ?_,
        fun wash recovering bus ours => ?_, fun clearing serving recovering => Yard.pointClear_other found clearing serving recovering⟩
      · exact (Yard.pointClear_serving found work bus ours).trans (congrArg (Yard.freePoint p) left)
      · exact (Yard.pointClear_recovering found wash recovering bus ours).trans (congrArg (Yard.vacatePoint p _) left)
    · exact (Yard.pointReady_island island).trans (Yard.islandReady_up found recovering)
    · intro recovering wash up
      have ready {z : Yard} (becomes : y.washReady e p = z) : y.pointReady e p = z := (Yard.pointReady_wash wash).trans becomes
      refine ⟨fun empty => ready (Yard.washReady_empty found recovering empty),
        fun f named unserved => ready (Yard.washReady_unserved found recovering named unserved),
        fun f t named serving entry frost => ready ?_, fun f program named serving thawed washes => ready ?_⟩
      · rw [Yard.washReady_frost found recovering named serving frost,
          (Yard.washStep_served (y := y.recovered e p) serving entry _ _).2]
        rfl
      · have point := Yard.recovered_point (e := e) found
        rw [Yard.washReady_thawed found recovering named serving thawed, Yard.orderPass_eq point washes]
        rfl
  · intro tenths counted cleared healthy
    have tally : y.addTally p tenths = counted := counts tenths
    refine ⟨fun idle => (Yard.fuelDone_idle found idle).trans tally, fun work empty => ?_, fun f work named => ?_⟩
    · rw [Yard.fuelDone_empty found work empty, tally]
    · obtain ⟨below, above, even⟩ := wholeUnits_spec tenths
      refine ⟨wholeUnits tenths, below, above, even, ?_⟩
      intro fuelled
      have same := y.fuelCounted_servingAt (p := p) (f := f) tenths
      have counted : y.fuelCounted p f tenths = fuelled := by
        rw [Yard.fuelCounted, tally]
        rfl
      refine ⟨fun unserved => ?_, fun serving => ?_⟩
      · rw [Yard.fuelDone_unserved found work named (same.trans unserved), counted]
      · rw [Yard.fuelDone_served found work named (same.trans serving), counted]
        rw [counted] at same
        obtain ⟨_, b, _, _, known, served⟩ := Yard.servingAt_iff.1 (same.trans serving)
        exact congrArg cleared (Yard.serviceComplete_serving
          (y := (fuelled.freeTurn f).post e .turnDone f (some (.point p)) 0 tenths) known served)
  · intro left counted bounded
    have pass : y.passCounted p left = bounded := by rw [Yard.passCounted, counts]
    refine ⟨fun idle => (Yard.washDone_idle found idle).trans (counts 1),
      fun work empty => (Yard.washDone_empty found work empty).trans (congrArg (Yard.freePoint p) pass),
      fun f work named unserved => (Yard.washDone_unserved found work named unserved).trans (congrArg (Yard.toClearing p) pass),
      fun f t b work named serving entry _ => ?_⟩
    have step (residue : Nat) := Yard.washStep_served (e := e) (y := y.passCounted p left) serving entry residue (some (.point p))
    refine ⟨fun last => ?_, fun more frost => ?_, fun program more thawed washes => ?_⟩
    · rw [Yard.washDone_last found work named serving last, (step 0).1, pass]
      rfl
    · rw [Yard.washDone_frost found work named serving more frost, (step left).2, pass]
      rfl
    · have point := Yard.passCounted_point found left
      rw [Yard.washDone_next found work named serving more thawed, Yard.orderPass_eq point washes, pass]

end Sys2Proof.Machine
end
